-- ==== Sys2Proof/Word.lean ====
section
/-! DEFINITION. The word and byte types of the block and the two readings of a word that the spec's notation
uses (00_scope.md R13 to R15). -/

namespace Sys2Proof

/-- A command word, an argument word, a COLOR word or a response word: 32 bits (R13, R20, R70). -/
abbrev Word := BitVec 32

/-- A byte handed to the byte writer (R141). -/
abbrev Byte := BitVec 8

/-- `s32(w)`: the word read as two's complement (R15). -/
abbrev s32 (w : Word) : Int := w.toInt

/-- `u32(w)`: the word's unsigned value (R15). -/
abbrev u32 (w : Word) : Nat := w.toNat

end Sys2Proof
end

