-- ==== Sys2Proof/Syntax.lean ====
section
/-! DEFINITION. The commands of the block as syntax: one constructor per row of spec/opcode_table.json, with its
operands as the decoder leaves them (30_encoding.md R73, R75). -/

namespace Sys2Proof

/-- The scan direction: code 0 is Normal, code 1 is Reversed (10_state.md R26). -/
inductive Direction where
  | normal
  | reversed
  deriving DecidableEq, Repr, Inhabited

/-- A decoded command. Index, level and brightness stay whole words: their range checks belong to the
command, not to the decoder (R74). A direction has been checked by the decoder (R75). -/
inductive Instr where
  /-- SET_BRIGHTNESS level (R101). -/
  | setBrightness (level : Word)
  /-- GET_BRIGHTNESS (R102). -/
  | getBrightness
  /-- SET_DIRECTION d (R103). -/
  | setDirection (d : Direction)
  /-- GET_DIRECTION (R104). -/
  | getDirection
  /-- SET_COLOR index, color (R105). -/
  | setColor (index color : Word)
  /-- SET_COLOR_B index, color, brightness (R106). -/
  | setColorB (index color brightness : Word)
  /-- WRITE with all L elements, the ignored ones too (R107). -/
  | write (elems : List Word)
  /-- SHOW (R140). -/
  | showCmd
  /-- RELEASE (R195). -/
  | release
  /-- INIT (R190). -/
  | init
  deriving DecidableEq, Repr, Inhabited

end Sys2Proof
end

