-- ==== Sys2Proof/Machine/Event.lean ====
section
/-! DEFINITION. The vocabulary of the transport and of the strip: lines, transport events, answers, and what an LED
displays (41_protocol_encoder.md R172, R173, R180). -/

namespace Sys2Proof.Machine

/-- The two output lines. -/
inductive Line where
  | data
  | clk
  deriving DecidableEq, Repr, Inhabited

/-- A transport event (R172). A driven level is a Bool: false is 0, true is 1. -/
inductive Event where
  | setData (v : Bool)
  | setClock (v : Bool)
  | configure (line : Line)
  | close (line : Line)
  deriving DecidableEq, Repr, Inhabited

/-- The transport's answer to an event (R173). -/
inductive Answer where
  | ok
  | fail
  deriving DecidableEq, Repr, Inhabited

/-- The displayed value of one LED: 5-bit brightness and three 8-bit channels (R180). -/
structure Pixel where
  br : BitVec 5
  red : Byte
  green : Byte
  blue : Byte
  deriving DecidableEq, Repr, Inhabited

/-- One entry of DISPLAY: unknown, or a displayed value (R180). -/
inductive Shown where
  | unknown
  | lit (p : Pixel)
  deriving DecidableEq, Repr, Inhabited

end Sys2Proof.Machine
end

