-- ==== Sys2Proof/Config.lean ====
section
/-! DEFINITION. The implementation parameters of 00_scope.md section 3, each under its own name (92_eei_decisions.md D24),
and the free values: constants with no body, which no proof can evaluate. -/

namespace Sys2Proof.Config

/-- P_N, the LED count (R6). -/
abbrev pN : Nat := 8

/-- P_BR_MAX, the largest brightness (R7). -/
abbrev pBrMax : Nat := 31

/-- P_DEFAULT_BRIGHTNESS (R8). -/
abbrev pDefaultBrightness : BitVec 5 := 15

/-- P_PREAMBLE_BYTES (R9). -/
abbrev pPreambleBytes : Nat := 4

/-- P_FRAME_MARKER, bits 7:5 of byte 0 of every frame (R10). -/
abbrev pFrameMarker : BitVec 3 := 0b111

/-- P_LATCH_PULSES (R11). -/
abbrev pLatchPulses : Nat := 36

/-- The default of the parameter P_INIT_WORD (R12). The parameter itself is a field of State (log entry 26). -/
abbrev pInitWord : Word := 0x0F000000

/-- FREE VALUE (log entries 6 and 7). The transport oracle's n-th draw: any event may be answered either way (R173), or
never, none (R178, R262). -/
opaque transportAnswer : Nat → Option Machine.Answer

/-- FREE VALUE (log entry 5). Which goes first when a BUSY sequencer step and a presented command are both enabled:
true for the sequencer (R216). -/
opaque sequencerFirst : Nat → Bool

/-- FREE VALUE (log entry 8). What the LED at a wire position displays where the spec allows any value (R182):
the draw's number, then the wire position. -/
opaque displayDraw : Nat → Nat → Machine.Shown

end Sys2Proof.Config
end

