-- ==== Sys2Proof/Machine/State.lean ====
section
/-! DEFINITION. The state of the block, of the strip it drives, and of the two ports as plain data (10_state.md,
41_protocol_encoder.md R176 and R180), the reasons a step can stop, and the state after power-on (R37, R250). -/

namespace Sys2Proof.Machine

/-- LIFE, the lifecycle state (R27). -/
inductive Life where
  | uninit
  | ready
  | busy
  | released
  deriving DecidableEq, Repr, Inhabited

/-- The values of the sticky FAULT register other than none (R33, R215). -/
inductive FaultReason where
  | concurrentCommand
  | useBeforeInit
  | useAfterRelease
  | doubleRelease
  | secondInstance
  deriving DecidableEq, Repr, Inhabited

/-- RESP.STATUS by name (R28, R80). Its codes are in Machine/Flags.lean. -/
inductive Status where
  | ok
  | invalidArgument
  | transportFailure
  | illegalCommand
  deriving DecidableEq, Repr, Inhabited

/-- RESP, the response to the last completed command (R28). -/
structure Resp where
  status : Status
  value : Word
  failPos : Nat
  failEv : Option Event
  deriving DecidableEq, Repr, Inhabited

/-- What the block knows of a line's level: 0, 1 or X (R18, R29). -/
inductive Level where
  | low
  | high
  | x
  deriving DecidableEq, Repr, Inhabited

/-- SEQ_CMD, the command that owns the running list (R32). -/
inductive SeqCmd where
  | init
  | showCmd
  | write
  | release
  deriving DecidableEq, Repr, Inhabited

/-- Why a step is a fault. -/
inductive Fault where
  /-- FAULT holds this reason, so the block takes no step (R220). Raised by every step and every command in a state
  whose FAULT is set. Safe: the machine stops where the spec says that it stops. -/
  | halted (reason : FaultReason)
  /-- LIFE is BUSY and SEQ_POS is no position of SEQ_TRACE, so no step is enabled (R149). Raised by the sequencer, in
  states that no run reaches. Safe: it stops where no rule gives a step (log entry 15). -/
  | sequencerStuck
  deriving DecidableEq, Repr, Inhabited

/-- Why a step is refused. -/
inductive Refusal where
  /-- An instruction with no meaning yet; raised by exec's arm for it, and by no arm of this model. Safe: the machine
  stops where the hardware goes on. -/
  | notModelled (mnemonic : String)
  deriving DecidableEq, Repr, Inhabited

/-- The state. The block's registers, the sequencer, the event history, the strip, the two ports. -/
structure State where
  /-- COLOR[0..7] (R20). -/
  color : Vector Word Config.pN
  /-- BRIGHTNESS (R25). -/
  brightness : BitVec 5
  /-- DIRECTION (R26). -/
  direction : Direction
  /-- LIFE (R27). -/
  life : Life
  /-- FAULT, sticky (R33). -/
  fault : Option FaultReason
  /-- RESP (R28). -/
  resp : Resp
  /-- DATA_OUT (R29). -/
  dataOut : Level
  /-- CLK_OUT (R29). -/
  clkOut : Level
  /-- SEQ_POS (R30). -/
  seqPos : Nat
  /-- SEQ_TRACE (R31). -/
  seqTrace : List Event
  /-- SEQ_CMD (R32). -/
  seqCmd : SeqCmd
  /-- The event history since power-on, oldest first (R176). -/
  history : List (Event × Answer)
  /-- DISPLAY, the strip's state (R180). -/
  display : Vector Shown Config.pN
  /-- CLK_OUT as it stood at the start of the last show, which R181 and R182 ask for (log entry 10). -/
  clkAtShow : Level
  /-- The words presented on the command port and not yet taken (R70, R75; log entry 2). -/
  port : List Word
  /-- The response words of the last completed command (R79; log entry 16). -/
  respWords : List Word
  /-- Does the host wait for each response before it presents the next command (R5; log entry 3)? -/
  hostWaits : Bool
  /-- Answers the transport will give, oldest first; when none is listed the answer is a free value (log entry 6). -/
  answers : List Answer
  /-- Has the transport stopped answering? After the listed answers it then gives no more, and the block stays in BUSY
  (R178, R262; log entry 7). -/
  transportSilent : Bool
  /-- P_INIT_WORD, the value of every COLOR word after construction (R12): a parameter of the block, which no step changes
  (log entry 26). -/
  initWord : Word
  /-- How many free values have been drawn: the model's own counter. -/
  draws : Nat
  deriving DecidableEq, Repr

/-- The state after power-on (R37, R250). LIFE, FAULT, the lines and DISPLAY are the spec's; P_INIT_WORD has the spec's default (R12); every other value is named
in log entry 11 (registers the spec leaves unspecified) or in the log entry of the model's own field. -/
def State.reset : State where
  color := Vector.replicate Config.pN 0
  brightness := 0
  direction := .normal
  life := .uninit
  fault := none
  resp := ⟨.ok, 0, 0, none⟩
  dataOut := .x
  clkOut := .x
  seqPos := 0
  seqTrace := []
  seqCmd := .init
  history := []
  display := Vector.replicate Config.pN .unknown
  clkAtShow := .x
  port := []
  respWords := []
  hostWaits := true
  answers := []
  transportSilent := false
  initWord := Config.pInitWord
  draws := 0

end Sys2Proof.Machine
end

