-- ==== Sys2Proof/Machine/Flags.lean ====
section
/-! DEFINITION. The block has no flags (10_state.md R34). Its only status is RESP.STATUS; this file gives the status
codes (30_encoding.md R80) and the response words the host receives (R79). -/

namespace Sys2Proof.Machine

/-- The code of a status (R80). -/
def statusCode : Status → BitVec 2
  | .ok => 0
  | .invalidArgument => 1
  | .transportFailure => 2
  | .illegalCommand => 3

/-- FAIL_POS as the status word carries it: zero unless STATUS is TRANSPORT_FAILURE (R79). -/
def failPosField (r : Resp) : BitVec 16 :=
  if r.status = .transportFailure then BitVec.ofNat 16 r.failPos else 0

/-- Response word 0: FAIL_POS in bits 31:16, zero in bits 15:2, STATUS in bits 1:0 (R79). -/
def statusWord (r : Resp) : Word := failPosField r ++ (0 : BitVec 14) ++ statusCode r.status

/-- The response words: the status word, then RESP.VALUE for a GET command that completed with OK (R79). -/
def responseWords (isGet : Bool) (r : Resp) : List Word :=
  if isGet && decide (r.status = .ok) then [statusWord r, r.value] else [statusWord r]

end Sys2Proof.Machine
end

