-- ==== Sys2Proof/Machine/Operands.lean ====
section
/-! DEFINITION. How each argument word is read (30_encoding.md R74), the packing of a COLOR word and its fields
(40_strip_state.md R100, 10_state.md R21), and the direction mapping (41_protocol_encoder.md R143). -/

namespace Sys2Proof.Machine

/-- A brightness argument: its five low bits when `s32` of it is in 0 to P_BR_MAX, none otherwise (R74). -/
def brightnessArg (w : Word) : Option (BitVec 5) :=
  if 0 ≤ s32 w ∧ s32 w ≤ Config.pBrMax then some (w.extractLsb' 0 5) else none

/-- An index argument: the buffer index when `s32` of it is in 0 to P_N - 1, none otherwise (R50, R74). -/
def indexArg (w : Word) : Option (Fin Config.pN) :=
  if 0 ≤ s32 w ∧ s32 w < Config.pN then some (Fin.ofNat Config.pN (s32 w).toNat) else none

/-- `pack(br, c)` (R100). -/
def pack (br : BitVec 5) (c : Word) : Word :=
  (br.zeroExtend 32 <<< 24) ||| (c &&& 0x00FFFFFF)

/-- BR, bits 28:24 of a COLOR word (R21). -/
def brOf (w : Word) : BitVec 5 := w.extractLsb' 24 5

/-- RED, bits 23:16 (R21). -/
def redOf (w : Word) : Byte := w.extractLsb' 16 8

/-- GREEN, bits 15:8 (R21). -/
def greenOf (w : Word) : Byte := w.extractLsb' 8 8

/-- BLUE, bits 7:0 (R21). -/
def blueOf (w : Word) : Byte := w.extractLsb' 0 8

/-- Bits 31:29 of a COLOR word, zero in every stored word (R21, R22). -/
def topOf (w : Word) : BitVec 3 := w.extractLsb' 29 3

/-- DIRECTION's one bit: 0 Normal, 1 Reversed (R26). -/
def directionBit : Direction → BitVec 1
  | .normal => 0
  | .reversed => 1

/-- The value GET_DIRECTION returns, `zext_32(DIRECTION)` (R104). -/
def directionValue (d : Direction) : Word := (directionBit d).zeroExtend 32

/-- `src(p, DIRECTION)`: the buffer index whose word goes out at wire position p (R143). -/
def src (p : Fin Config.pN) : Direction → Fin Config.pN
  | .normal => p
  | .reversed => Fin.ofNat Config.pN (Config.pN - 1 - p.val)

end Sys2Proof.Machine
end

