-- ==== Sys2Proof/Machine/Trace.lean ====
section
/-! DEFINITION. The protocol encoder's primitives as lists of transport events, the trace of a show, its byte view
(41_protocol_encoder.md R141 to R147) and its wire bits (30_encoding.md R81 to R85). -/

namespace Sys2Proof.Machine

/-- One bit of the byte writer: set the data line, then pulse the clock high and low (R141). -/
def writeBit (v : Bool) : List Event := [.setData v, .setClock true, .setClock false]

/-- The bits of a byte in the order they are sent, bit 7 first (R53, R141). -/
def bitsMsbFirst (b : Byte) : List Bool := [7, 6, 5, 4, 3, 2, 1, 0].map fun j => b.getLsbD j

/-- `WRITE_BYTE(b)` (R141). -/
def writeByte (b : Byte) : List Event := (bitsMsbFirst b).flatMap writeBit

/-- The bytes of the preamble (R9, R82). -/
def preambleBytes : List Byte := List.replicate Config.pPreambleBytes 0

/-- `PREAMBLE` (R142). -/
def preamble : List Event := preambleBytes.flatMap writeByte

/-- Byte 0 of a frame: the marker in bits 7:5, the brightness in bits 4:0 (R10, R144). -/
def frameByte0 (br : BitVec 5) : Byte := Config.pFrameMarker ++ br

/-- `frameBytes(w)`: marker and brightness, blue, green, red (R144). -/
def frameBytes (w : Word) : List Byte := [frameByte0 (brOf w), blueOf w, greenOf w, redOf w]

/-- `FRAME(w)` (R144). -/
def frame (w : Word) : List Event := (frameBytes w).flatMap writeByte

/-- One clock pulse with no data event (R145). -/
def pulse : List Event := [.setClock true, .setClock false]

/-- `LATCH` (R145). -/
def latch : List Event := .setData false :: (List.replicate Config.pLatchPulses pulse).flatten

/-- The COLOR words in wire order (R143). -/
def wireWords (color : Vector Word Config.pN) (d : Direction) : List Word :=
  (List.finRange Config.pN).map fun p => color[src p d]

/-- `ShowTrace(COLOR, DIRECTION)` (R146). -/
def showTrace (color : Vector Word Config.pN) (d : Direction) : List Event :=
  preamble ++ (wireWords color d).flatMap frame ++ latch

/-- `ShowBytes(COLOR, DIRECTION)`, the byte view (R147). -/
def showBytes (color : Vector Word Config.pN) (d : Direction) : List Byte :=
  preambleBytes ++ (wireWords color d).flatMap frameBytes

/-- The event list that a command emits (R31): a show's trace for SHOW and WRITE (R140), the two Configure events and
then a show's trace for INIT (R190, R191, R193), the two Close events for RELEASE (R195). -/
def eventList (c : SeqCmd) (color : Vector Word Config.pN) (d : Direction) : List Event :=
  match c with
  | .showCmd => showTrace color d
  | .write => showTrace color d
  | .init => [.configure .data, .configure .clk] ++ showTrace color d
  | .release => [.close .data, .close .clk]

/-- The position in a command's list at which its show starts, none for a list with no show (R193, R195). -/
def showStart : SeqCmd → Option Nat
  | .showCmd => some 0
  | .write => some 0
  | .init => some 2
  | .release => none

/-- The wire bits of an event list, given the data line's level before it: the data level at each rising clock event
(R81). -/
def wireBits : Bool → List Event → List Bool
  | _, [] => []
  | _, .setData v :: es => wireBits v es
  | v, .setClock true :: es => v :: wireBits v es
  | v, .setClock false :: es => wireBits v es
  | v, .configure _ :: es => wireBits v es
  | v, .close _ :: es => wireBits v es

/-- The 32-bit value of an LED frame on the wire, bit 31 sent first (R83). -/
def frameValue (w : Word) : Word := frameByte0 (brOf w) ++ blueOf w ++ greenOf w ++ redOf w

/-- What an LED displays when it takes the frame built from a COLOR word (R181). -/
def shownOf (w : Word) : Shown := .lit ⟨brOf w, redOf w, greenOf w, blueOf w⟩

end Sys2Proof.Machine
end

