-- ==== Sys2Proof/Machine/Ops.lean ====
section
/-! DEFINITION. The named operations over the registers: responses and errors (00_scope.md R16, 60_exceptions.md), model
faults and the lifecycle gate (R214, R215), buffer writes, and the start of an event list (41_protocol_encoder.md R140).

An error of this block is a response, not a trap: `respond` and `respondFailure` are all that taking one does (R218),
and there is no return from it (R219). -/

namespace Sys2Proof.Machine

/-- Writes RESP and hands its words to the host (R28, R79). -/
def answerHost (isGet : Bool) (r : Resp) (s : State) : State :=
  { s with resp := r, respWords := responseWords isGet r }

/-- `respond(status, 0)` of a command that is no GET (R16, R210, R211, R213). -/
def respond (st : Status) (s : State) : State := answerHost false ⟨st, 0, 0, none⟩ s

/-- `respond(OK, value)` of a GET command (R102, R104). -/
def respondValue (v : Word) (s : State) : State := answerHost true ⟨.ok, v, 0, none⟩ s

/-- The response to a transport failure at position k (R151, R194, R196, R212). -/
def respondFailure (k : Nat) (ev : Event) (s : State) : State := answerHost false ⟨.transportFailure, 0, k, some ev⟩ s

/-- `fault <Reason>`: sets the sticky FAULT register and nothing else (R16, R33). -/
def raiseFault (r : FaultReason) (s : State) : State := { s with fault := some r }

/-- The columns of the lifecycle gate (R214). -/
inductive Column where
  | init
  | release
  | illegal
  | other
  deriving DecidableEq, Repr, Inhabited

/-- The lifecycle gate: the fault it raises, none where the command is admitted (R214). -/
def gate : Life → Column → Option FaultReason
  | .uninit, .init => none
  | .uninit, .release => some .useBeforeInit
  | .uninit, .illegal => some .useBeforeInit
  | .uninit, .other => some .useBeforeInit
  | .ready, .init => some .secondInstance
  | .ready, .release => none
  | .ready, .illegal => none
  | .ready, .other => none
  | .busy, _ => some .concurrentCommand
  | .released, .init => none
  | .released, .release => some .doubleRelease
  | .released, .illegal => some .useAfterRelease
  | .released, .other => some .useAfterRelease

/-- The order of checks for one command (R216): FAULT, then the lifecycle gate, then the command's own rule. A command
the gate turns away sets FAULT and gives no response (R215). -/
def gated (c : Column) (body : State → State) (s : State) : Host.Outcome State Fault Refusal :=
  match s.fault with
  | some r => .fault (.halted r)
  | none =>
    match gate s.life c with
    | some r => .next (raiseFault r s)
    | none => .next (body s)

/-- ILLEGAL: in READY it answers ILLEGAL_COMMAND and changes nothing else (R76, R213, R214). -/
def execIllegal (s : State) : Host.Outcome State Fault Refusal := gated .illegal (respond .illegalCommand) s

/-- `COLOR[i] <- v` (R16). -/
def writeColor (i : Fin Config.pN) (v : Word) (s : State) : State := { s with color := s.color.set i v }

/-- WRITE's buffer writes: words 0 to min(L, P_N) - 1 in one step, with the default brightness (R57, R107). -/
def writeColors (elems : List Word) (s : State) : State :=
  { s with color := Vector.ofFn fun j => match elems[j.val]? with
      | some e => pack s.brightness e
      | none => s.color[j] }

/-- The default state of a new instance, with the block's P_INIT_WORD (R12, R192). -/
def setDefaults (s : State) : State :=
  { s with
    color := Vector.replicate Config.pN s.initWord
    brightness := Config.pDefaultBrightness
    direction := .normal }

/-- Starts a command's event list on COLOR and DIRECTION as they stand now (R31, R140, R190, R195). -/
def startList (c : SeqCmd) (s : State) : State :=
  { s with
    seqTrace := eventList c s.color s.direction
    seqPos := 0
    seqCmd := c
    life := .busy }

/-- The show body: SHOW runs it as itself, WRITE as WRITE (R140, R107). -/
def showBody (c : SeqCmd) (s : State) : State := startList c s

end Sys2Proof.Machine
end

