-- ==== Sys2Proof/Machine/Encoder.lean ====
section
/-! DEFINITION. The protocol encoder's command, SHOW (41_protocol_encoder.md R140). -/

namespace Sys2Proof.Machine

/-- SHOW: the show's event list starts; the sequencer emits it one event a step (R140, R149). -/
def execShow (s : State) : Host.Outcome State Fault Refusal := gated .other (showBody .showCmd) s

end Sys2Proof.Machine
end

