-- ==== Sys2Proof/Machine/Lifecycle.lean ====
section
/-! DEFINITION. The lifecycle commands (42_lifecycle.md R190 to R197). -/

namespace Sys2Proof.Machine

/-- INIT: the default state, then the Configure events and the initial show on it (R190 to R193). -/
def execInit (s : State) : Host.Outcome State Fault Refusal :=
  gated .init (fun s => startList .init (setDefaults s)) s

/-- RELEASE: the two Close events (R195); a second one is the gate's DoubleRelease (R197). -/
def execRelease (s : State) : Host.Outcome State Fault Refusal := gated .release (startList .release) s

end Sys2Proof.Machine
end

