-- ==== Sys2Proof/Machine/Strip.lean ====
section
/-! DEFINITION. The strip-state commands (40_strip_state.md R101 to R107). -/

namespace Sys2Proof.Machine

/-- SET_BRIGHTNESS (R101). -/
def execSetBrightness (level : Word) (s : State) : Host.Outcome State Fault Refusal :=
  gated .other (fun s => match brightnessArg level with
    | some br => respond .ok { s with brightness := br }
    | none => respond .invalidArgument s) s

/-- GET_BRIGHTNESS (R102). -/
def execGetBrightness (s : State) : Host.Outcome State Fault Refusal :=
  gated .other (fun s => respondValue (s.brightness.zeroExtend 32) s) s

/-- SET_DIRECTION (R103). -/
def execSetDirection (d : Direction) (s : State) : Host.Outcome State Fault Refusal :=
  gated .other (fun s => respond .ok { s with direction := d }) s

/-- GET_DIRECTION (R104). -/
def execGetDirection (s : State) : Host.Outcome State Fault Refusal :=
  gated .other (fun s => respondValue (directionValue s.direction) s) s

/-- SET_COLOR: the default brightness is read when the command runs (R105). -/
def execSetColor (index color : Word) (s : State) : Host.Outcome State Fault Refusal :=
  gated .other (fun s => match indexArg index with
    | some i => respond .ok (writeColor i (pack s.brightness color) s)
    | none => respond .invalidArgument s) s

/-- SET_COLOR_B: one status for a bad index, a bad brightness, or both (R106, R217). -/
def execSetColorB (index color brightness : Word) (s : State) : Host.Outcome State Fault Refusal :=
  gated .other (fun s => match indexArg index, brightnessArg brightness with
    | some i, some br => respond .ok (writeColor i (pack br color) s)
    | _, _ => respond .invalidArgument s) s

/-- WRITE: the buffer writes, then the show body on the new words (R107). -/
def execWrite (elems : List Word) (s : State) : Host.Outcome State Fault Refusal :=
  gated .other (fun s => showBody .write (writeColors elems s)) s

end Sys2Proof.Machine
end

