-- ==== Sys2Proof/Machine/Dispatch.lean ====
section
/-! DEFINITION. One arm per command: the meaning it calls. -/

namespace Sys2Proof.Machine

def exec (i : Instr) (s : State) : Host.Outcome State Fault Refusal :=
  match i with
  | .setBrightness level => Sys2Proof.Machine.execSetBrightness level s
  | .getBrightness => Sys2Proof.Machine.execGetBrightness s
  | .setDirection d => Sys2Proof.Machine.execSetDirection d s
  | .getDirection => Sys2Proof.Machine.execGetDirection s
  | .setColor index color => Sys2Proof.Machine.execSetColor index color s
  | .setColorB index color brightness => Sys2Proof.Machine.execSetColorB index color brightness s
  | .write elems => Sys2Proof.Machine.execWrite elems s
  | .showCmd => Sys2Proof.Machine.execShow s
  | .release => Sys2Proof.Machine.execRelease s
  | .init => Sys2Proof.Machine.execInit s

end Sys2Proof.Machine
end

