-- ==== Sys2Proof/WellFormed.lean ====
section
/-! DEFINITION. Which commands have an encoding: the element count of a WRITE must fit the header's 28-bit L field
(30_encoding.md R71). Every other operand is a whole word or a checked direction, so nothing else can be ill-formed. -/

namespace Sys2Proof

/-- The element count of a WRITE is at most 2^28 - 1 (R71). -/
def Instr.wf : Instr → Bool
  | .write elems => decide (elems.length < 2 ^ 28)
  | .setBrightness _ => true
  | .getBrightness => true
  | .setDirection _ => true
  | .getDirection => true
  | .setColor _ _ => true
  | .setColorB _ _ _ => true
  | .showCmd => true
  | .release => true
  | .init => true

end Sys2Proof
end

