-- ==== Sys2Proof/Decode.lean ====
section
/-! DEFINITION. The command decoder, total on any word sequence (30_encoding.md R75, R76, R78), the encoder written from
the same table (R71 to R73), and the reading of an opcode-table word that the host asks for. -/

namespace Sys2Proof

/-- Why a command decodes to ILLEGAL (R76). -/
inductive Illegal where
  /-- Opcodes 0x0 and 0xB to 0xF. -/
  | reservedOpcode
  /-- A nonzero L field with an opcode other than WRITE. -/
  | reservedBits
  /-- A SET_DIRECTION argument other than 0 or 1. -/
  | badDirection
  deriving DecidableEq, Repr, Inhabited

/-- What the words on the command port decode to, with the words that are left. -/
inductive Decoded where
  /-- A command. -/
  | instr (i : Instr) (rest : List Word)
  /-- ILLEGAL: one word consumed, or two for a bad direction (R78). -/
  | illegal (why : Illegal) (rest : List Word)
  /-- The host has not yet presented the whole command. -/
  | incomplete
  deriving DecidableEq, Repr, Inhabited

/-- OP, bits 31:28 of the header (R71). -/
def opcodeOf (hdr : Word) : BitVec 4 := hdr.extractLsb' 28 4

/-- L, bits 27:0 of the header (R71). -/
def lengthOf (hdr : Word) : BitVec 28 := hdr.extractLsb' 0 28

/-- The number of argument words an opcode other than WRITE takes, none for a reserved opcode (R73). -/
def fixedArgs (op : BitVec 4) : Option Nat :=
  if op = 0x2 ∨ op = 0x4 ∨ op = 0x8 ∨ op = 0x9 ∨ op = 0xA then some 0
  else if op = 0x1 ∨ op = 0x3 then some 1
  else if op = 0x5 then some 2
  else if op = 0x6 then some 3
  else none

/-- The number of argument words that follow a header: known from the header alone (R78). An illegal header
is one word long. -/
def argCount (hdr : Word) : Nat :=
  if opcodeOf hdr = 0x7 then (lengthOf hdr).toNat
  else if lengthOf hdr = 0 then (fixedArgs (opcodeOf hdr)).getD 0
  else 0

/-- SET_DIRECTION's argument: 0 or 1 names a direction, any other word is illegal (R74, R76). -/
def ofDirectionArg (a : Word) (rest : List Word) : Decoded :=
  if u32 a = 0 then .instr (.setDirection .normal) rest
  else if u32 a = 1 then .instr (.setDirection .reversed) rest
  else .illegal .badDirection rest

/-- The command that an opcode and its argument words name (R75), WRITE apart. -/
def ofFixedArgs (op : BitVec 4) (args rest : List Word) : Decoded :=
  match args with
  | [] =>
    if op = 0x2 then .instr .getBrightness rest
    else if op = 0x4 then .instr .getDirection rest
    else if op = 0x8 then .instr .showCmd rest
    else if op = 0x9 then .instr .release rest
    else if op = 0xA then .instr .init rest
    else .illegal .reservedOpcode rest
  | [a] =>
    if op = 0x1 then .instr (.setBrightness a) rest
    else if op = 0x3 then ofDirectionArg a rest
    else .illegal .reservedOpcode rest
  | [i, c] => if op = 0x5 then .instr (.setColor i c) rest else .illegal .reservedOpcode rest
  | [i, c, b] => if op = 0x6 then .instr (.setColorB i c b) rest else .illegal .reservedOpcode rest
  | _ => .illegal .reservedOpcode rest

/-- The command that an opcode and its argument words name (R75). -/
def ofArgs (op : BitVec 4) (args rest : List Word) : Decoded :=
  if op = 0x7 then .instr (.write args) rest else ofFixedArgs op args rest

/-- Decoding of the next command on the port (R75). The header alone gives the length (R78); the argument words are
taken only when all of them are there. -/
def decode : List Word → Decoded
  | [] => .incomplete
  | hdr :: ws =>
    if opcodeOf hdr ≠ 0x7 ∧ fixedArgs (opcodeOf hdr) = none then .illegal .reservedOpcode ws
    else if opcodeOf hdr ≠ 0x7 ∧ lengthOf hdr ≠ 0 then .illegal .reservedBits ws
    else if ws.length < argCount hdr then .incomplete
    else ofArgs (opcodeOf hdr) (ws.take (argCount hdr)) (ws.drop (argCount hdr))

/-- A header word: OP in bits 31:28, L or the reserved zero in bits 27:0 (R71). -/
def header (op : BitVec 4) (l : BitVec 28) : Word := op ++ l

/-- The argument word of a direction (R26, R103). -/
def Direction.word : Direction → Word
  | .normal => 0
  | .reversed => 1

/-- The words of a command: its header, then its arguments in the source's parameter order (R70 to R73). -/
def encode : Instr → List Word
  | .setBrightness level => [header 0x1 0, level]
  | .getBrightness => [header 0x2 0]
  | .setDirection d => [header 0x3 0, d.word]
  | .getDirection => [header 0x4 0]
  | .setColor index color => [header 0x5 0, index, color]
  | .setColorB index color brightness => [header 0x6 0, index, color, brightness]
  | .write elems => header 0x7 (BitVec.ofNat 28 elems.length) :: elems
  | .showCmd => [header 0x8 0]
  | .release => [header 0x9 0]
  | .init => [header 0xA 0]

/-- The `nbits` low bits of `w` as words, the first word in bits 31:0, the next in bits 63:32, and so on. -/
def wordsOfNat (nbits w : Nat) : List Word :=
  (List.range ((nbits + 31) / 32)).map fun k => BitVec.ofNat 32 ((w % 2 ^ nbits) >>> (32 * k))

/-- An opcode-table word laid out on the port: its given words, then the argument words its header asks for and the
table gives no bits, which are zero. -/
def tableWords (nbits w : Nat) : List Word :=
  match wordsOfNat nbits w with
  | [] => []
  | hdr :: ws => hdr :: ws ++ List.replicate (argCount hdr - ws.length) 0

/-- The instruction the decoder reads from an opcode-table word, none where it decodes to ILLEGAL. -/
def decodeTableWord (nbits w : Nat) : Option Instr :=
  match decode (tableWords nbits w) with
  | .instr i _ => some i
  | .illegal _ _ => none
  | .incomplete => none

end Sys2Proof
end

