-- ==== Sys2Proof/Machine/Sequencer.lean ====
section
/-! DEFINITION. The sequencer's step (41_protocol_encoder.md R149), the line registers (R174, R177), the end of a list
(R150, R151; 42_lifecycle.md R194, R196), the transport's answers (R173) and the strip's display (R180 to R182). -/

namespace Sys2Proof.Machine

/-- The level a driven bit gives a line (R18, R174). -/
def levelOf (v : Bool) : Level := if v then .high else .low

/-- DATA_OUT after an event answered `Ok`, given its old value (R174). -/
def dataOutOk (old : Level) : Event → Level
  | .setData v => levelOf v
  | .setClock _ => old
  | .configure .data => .low
  | .configure .clk => old
  | .close .data => .x
  | .close .clk => old

/-- CLK_OUT after an event answered `Ok`, given its old value (R174). -/
def clkOutOk (old : Level) : Event → Level
  | .setData _ => old
  | .setClock v => levelOf v
  | .configure .data => old
  | .configure .clk => .low
  | .close .data => old
  | .close .clk => .x

/-- The effect of an `Ok` answer on the line registers (R174). -/
def applyOk (ev : Event) (s : State) : State :=
  { s with dataOut := dataOutOk s.dataOut ev, clkOut := clkOutOk s.clkOut ev }

/-- The line an event names (R172, R177). -/
def lineOf : Event → Line
  | .setData _ => .data
  | .setClock _ => .clk
  | .configure line => line
  | .close line => line

/-- The effect of a `Fail` answer on the line registers: the event's line becomes X (R177). -/
def applyFail (ev : Event) (s : State) : State :=
  { s with
    dataOut := if lineOf ev = .data then .x else s.dataOut
    clkOut := if lineOf ev = .clk then .x else s.clkOut }

/-- Is the event at SEQ_POS part of the running list's show (R146, R193)? -/
def inShow (s : State) : Bool :=
  match showStart s.seqCmd with
  | some k => decide (k ≤ s.seqPos)
  | none => false

/-- At the first event of a show, records CLK_OUT for the condition of R181 (log entry 10). -/
def markShowStart (s : State) : State :=
  { s with clkAtShow := if showStart s.seqCmd = some s.seqPos then s.clkOut else s.clkAtShow }

/-- Every LED may hold any value: a new draw of the free value (R182). -/
def drawDisplay (s : State) : State :=
  { s with display := Vector.ofFn fun p => Config.displayDraw s.draws p.val, draws := s.draws + 1 }

/-- The strip after a failed event: a draw if the event was part of a show, which it aborts (R182; log entry 8). -/
def disturbDisplay (showing : Bool) (s : State) : State := if showing then drawDisplay s else s

/-- The strip after the last event of a list: the frames of a show that started with CLK_OUT = 0 (R181), a draw for
another show (R182), and no change for a list with no show (R195). -/
def latchDisplay (s : State) : State :=
  match showStart s.seqCmd with
  | none => s
  | some _ =>
    if s.clkAtShow = .low then { s with display := Vector.ofFn fun p => shownOf s.color[src p s.direction] }
    else drawDisplay s

/-- LIFE after a list whose every event was answered `Ok` (R150, R194, R196). -/
def lifeAfterOk : SeqCmd → Life
  | .init => .ready
  | .showCmd => .ready
  | .write => .ready
  | .release => .released

/-- LIFE after a list that a `Fail` aborted (R151, R194, R196). -/
def lifeAfterFail : SeqCmd → Life
  | .init => .uninit
  | .showCmd => .ready
  | .write => .ready
  | .release => .released

/-- The end of a list after its last event (R150, R194, R196). -/
def finish (s : State) : State := respond .ok { latchDisplay s with life := lifeAfterOk s.seqCmd }

/-- The end of a list at a failed event (R151, R194, R196). -/
def abort (ev : Event) (s : State) : State :=
  respondFailure s.seqPos ev { disturbDisplay (inShow s) s with life := lifeAfterFail s.seqCmd }

/-- Appends to the event history (R149, R176). -/
def record (ev : Event) (r : Answer) (s : State) : State := { s with history := s.history ++ [(ev, r)] }

/-- The step after an `Ok` answer (R149). While the list goes on, the strip shows nothing new (R259). -/
def afterOk (ev : Event) (s : State) : State :=
  let t := applyOk ev { s with seqPos := s.seqPos + 1 }
  if t.seqPos = t.seqTrace.length then finish t else t

/-- The step after a `Fail` answer (R149). -/
def afterFail (ev : Event) (s : State) : State := abort ev (applyFail ev s)

/-- Everything the sequencer's step does with the event `ev` that the transport answers `r` (R149). -/
def emit (ev : Event) (r : Answer) (s : State) : State :=
  let t := record ev r (markShowStart s)
  match r with
  | .ok => afterOk ev t
  | .fail => afterFail ev t

/-- The transport's answer to the next event: the first of the answers already fixed, else the oracle's draw (R173;
log entry 6). None where the transport never answers (R178, R262; log entry 7). -/
def nextAnswer (s : State) : Option Answer :=
  match s.answers with
  | r :: _ => some r
  | [] => if s.transportSilent then none else Config.transportAnswer s.draws

/-- Uses up the answer that `nextAnswer` gave: a listed one, else a draw. -/
def takeAnswer (s : State) : State :=
  { s with answers := s.answers.tail, draws := if s.answers = [] then s.draws + 1 else s.draws }

/-- No answer comes: the event stays outstanding, the block stays in BUSY, and the transport stays silent (R178,
R262). -/
def awaitAnswer (s : State) : State := { s with transportSilent := true }

/-- The sequencer's step: the event at SEQ_POS and the transport's answer to it (R149). With no answer the block waits
(R178). -/
def seqStep (s : State) : Host.Outcome State Fault Refusal :=
  match s.seqTrace[s.seqPos]? with
  | some ev =>
    match nextAnswer s with
    | some r => .next (emit ev r (takeAnswer s))
    | none => .next (awaitAnswer s)
  | none => .fault .sequencerStuck

end Sys2Proof.Machine
end

