-- ==== Sys2Proof/Machine/Fetch.lean ====
section
/-! DEFINITION. Which agent moves next, and what the command port presents (20_memory.md R61, R62; 30_encoding.md R75;
60_exceptions.md R214, R216, R220). -/

namespace Sys2Proof.Machine

/-- A command taken from the port: an instruction, or ILLEGAL (R75). -/
inductive Command where
  | instr (i : Instr)
  | illegal
  deriving DecidableEq, Repr, Inhabited

/-- What moves next. -/
inductive Move where
  /-- FAULT is set: nothing moves (R220). -/
  | halted (r : FaultReason)
  /-- LIFE is not BUSY and no whole command is presented: the block does nothing (R251). -/
  | idle
  /-- The sequencer takes a step (R149). -/
  | sequence
  /-- A command presented while the block is not BUSY, with the state its words have left (R61). -/
  | run (c : Command) (s : State)
  /-- A command presented during BUSY, with the state its words have left and the order drawn (R216). -/
  | race (c : Command) (sequencerFirst : Bool) (s : State)
  deriving DecidableEq, Repr

/-- The whole command that stands first on the port, and the words after it (R75, R78). -/
def presented (s : State) : Option (Command × List Word) :=
  match decode s.port with
  | .instr i rest => some (.instr i, rest)
  | .illegal _ rest => some (.illegal, rest)
  | .incomplete => none

/-- What moves next. A host that waits for its response presents nothing during BUSY (R5). -/
def nextMove (s : State) : Move :=
  match s.fault with
  | some r => .halted r
  | none =>
    if s.life = .busy then
      if s.hostWaits then .sequence
      else match presented s with
        | some (c, rest) =>
          .race c (Config.sequencerFirst s.draws) { s with port := rest, draws := s.draws + 1 }
        | none => .sequence
    else match presented s with
      | some (c, rest) => .run c { s with port := rest }
      | none => .idle

/-- The race of R216 in the order that lets the sequencer go first: its step, if it has one, and then the fault that a
command presented during BUSY raises in either order (R214). -/
def raceAfterSequencer (s : State) : Host.Outcome State Fault Refusal :=
  match seqStep s with
  | .next t => .next (raiseFault .concurrentCommand t)
  | .fault _ => .next (raiseFault .concurrentCommand s)
  | .refused _ => .next (raiseFault .concurrentCommand s)

/-- Presents words on the command port now. A host that waits would hold them back during BUSY, so then it does not
wait (R62). -/
def present (words : List Word) (s : State) : State :=
  { s with port := words, hostWaits := s.hostWaits && decide (s.life ≠ .busy) }

end Sys2Proof.Machine
end

