-- ==== Sys2Proof/Machine/Step.lean ====
section
/-! DEFINITION. One step of the machine: the move that Machine/Fetch.lean names, with a command's meaning from
Machine/Dispatch.lean; and the placing of an opcode-table word on the command port. -/

namespace Sys2Proof.Machine

/-- A command's effect (R75, R214): an instruction's meaning, or ILLEGAL's. -/
def execCommand (c : Command) (s : State) : Host.Outcome State Fault Refusal :=
  match c with
  | .instr i => exec i s
  | .illegal => execIllegal s

/-- One step. -/
def step (s : State) : Host.Outcome State Fault Refusal :=
  match nextMove s with
  | .halted r => .fault (.halted r)
  | .idle => .next s
  | .sequence => seqStep s
  | .run c t => execCommand c t
  | .race c sequencerFirst t => if sequencerFirst then raceAfterSequencer t else execCommand c t

/-- The state with an opcode-table word, and zero words for the arguments it gives no bits, presented on the port. -/
def State.withFetchWord (s : State) (nbits w : Nat) : State := present (tableWords nbits w) s

end Sys2Proof.Machine
end

