-- ==== Sys2Proof/Machine/Assembler.lean ====
section
/-! DEFINITION. The assembler of 30_encoding.md R87: one line of text to the words of one command. It is no part of the
machine: a host uses it to write the words it presents. A line is a mnemonic or one of the source's method names, a
blank, and arguments separated by commas (log entry 25). -/

namespace Sys2Proof.Machine

/-- Space and tab. -/
def isBlank (c : Char) : Bool := c = ' ' || c = '\t'

/-- A text without the blanks at its ends. -/
def trimBlanks (cs : List Char) : List Char :=
  ((cs.dropWhile isBlank).reverse.dropWhile isBlank).reverse

/-- The parts of a text between its commas. -/
def splitCommas : List Char → List (List Char)
  | [] => [[]]
  | c :: cs =>
    if c = ',' then [] :: splitCommas cs
    else match splitCommas cs with
      | [] => [[c]]
      | part :: parts => (c :: part) :: parts

/-- The arguments of a text: none when it is blank, else its parts between commas. -/
def argTexts (cs : List Char) : List (List Char) :=
  if trimBlanks cs = [] then [] else (splitCommas cs).map trimBlanks

/-- The value of a hexadecimal digit. -/
def digitValue (c : Char) : Option Nat :=
  if '0' ≤ c ∧ c ≤ '9' then some (c.toNat - '0'.toNat)
  else if 'a' ≤ c ∧ c ≤ 'f' then some (c.toNat - 'a'.toNat + 10)
  else if 'A' ≤ c ∧ c ≤ 'F' then some (c.toNat - 'A'.toNat + 10)
  else none

/-- Digits read onto a value already read. -/
def readDigits (base : Nat) : Nat → List Char → Option Nat
  | n, [] => some n
  | n, c :: cs =>
    match digitValue c with
    | some d => if d < base then readDigits base (n * base + d) cs else none
    | none => none

/-- A text of at least one digit. -/
def readNat (base : Nat) (cs : List Char) : Option Nat := if cs = [] then none else readDigits base 0 cs

/-- A number: hexadecimal after `0x`, else decimal, which may be negative. One that does not fit in 32 bits is
refused (R87). -/
def readNumber (cs : List Char) : Option Word :=
  match cs with
  | '0' :: 'x' :: ds => (readNat 16 ds).bind fun n => if n < 2 ^ 32 then some (BitVec.ofNat 32 n) else none
  | '-' :: ds => (readNat 10 ds).bind fun n => if n ≤ 2 ^ 31 then some (BitVec.ofInt 32 (-(n : Int))) else none
  | ds => (readNat 10 ds).bind fun n => if n < 2 ^ 32 then some (BitVec.ofNat 32 n) else none

/-- All the numbers of a list, none if one is refused. -/
def readNumbers : List (List Char) → Option (List Word)
  | [] => some []
  | cs :: rest =>
    match readNumber cs, readNumbers rest with
    | some w, some ws => some (w :: ws)
    | _, _ => none

/-- A direction: NORMAL or REVERSED, or the number 0 or 1. -/
def readDirection (cs : List Char) : Option Direction :=
  if cs = "NORMAL".toList ∨ readNumber cs = some 0 then some .normal
  else if cs = "REVERSED".toList ∨ readNumber cs = some 1 then some .reversed
  else none

/-- The text between square brackets. -/
def bracketed (cs : List Char) : Option (List Char) :=
  match cs with
  | '[' :: rest => if rest.getLast? = some ']' then some rest.dropLast else none
  | _ => none

/-- SET_BRIGHTNESS with its arguments. -/
def asmSetBrightness (args : List Char) : Option Instr :=
  match readNumbers (argTexts args) with
  | some [a] => some (.setBrightness a)
  | _ => none

/-- SET_DIRECTION with its argument. -/
def asmSetDirection (args : List Char) : Option Instr :=
  match argTexts args with
  | [a] => (readDirection a).map .setDirection
  | _ => none

/-- SET_COLOR and SET_COLOR_B, told apart by how many arguments there are (R87). -/
def asmSetColor (args : List Char) : Option Instr :=
  match readNumbers (argTexts args) with
  | some [i, c] => some (.setColor i c)
  | some [i, c, b] => some (.setColorB i c b)
  | _ => none

/-- WRITE with its bracketed elements. -/
def asmWrite (args : List Char) : Option Instr :=
  ((bracketed args).bind fun inner => readNumbers (argTexts inner)).map .write

/-- A command with no argument. -/
def asmPlain (i : Instr) (args : List Char) : Option Instr := if args = [] then some i else none

/-- A command that must have this many arguments to keep its mnemonic: SET_COLOR takes two and SET_COLOR_B three. -/
def asmCounted (count : Nat) (args : List Char) : Option Instr :=
  if (argTexts args).length = count then asmSetColor args else none

/-- The command that a mnemonic or a method name of the source gives with the text after it (R73, R87). -/
def asmCommand (name args : List Char) : Option Instr :=
  if name = "SET_BRIGHTNESS".toList ∨ name = "setBrightness".toList then asmSetBrightness args
  else if name = "GET_BRIGHTNESS".toList ∨ name = "getBrightness".toList then asmPlain .getBrightness args
  else if name = "SET_DIRECTION".toList ∨ name = "setDirection".toList then asmSetDirection args
  else if name = "GET_DIRECTION".toList ∨ name = "getDirection".toList then asmPlain .getDirection args
  else if name = "SET_COLOR".toList then asmCounted 2 args
  else if name = "SET_COLOR_B".toList then asmCounted 3 args
  else if name = "setColor".toList then asmSetColor args
  else if name = "WRITE".toList ∨ name = "write".toList then asmWrite args
  else if name = "SHOW".toList ∨ name = "show".toList then asmPlain .showCmd args
  else if name = "RELEASE".toList then asmPlain .release args
  else if name = "INIT".toList then asmPlain .init args
  else none

/-- The command of one line of text. -/
def asmLine (line : List Char) : Option Instr :=
  let cs := trimBlanks line
  asmCommand (cs.takeWhile fun c => !isBlank c) (trimBlanks (cs.dropWhile fun c => !isBlank c))

/-- The words of one line of text, none where the assembler refuses it (R87). -/
def assemble (line : String) : Option (List Word) :=
  (asmLine line.toList).bind fun i => if i.wf then some (encode i) else none

end Sys2Proof.Machine
end

