-- ==== Sys2Proof/Safety.lean ====
section
/-! DEFINITION. What counts as a good state, in the terms the statements use: the invariants of the block's registers,
sequencer, response, history and clock line. Each is plain data about one state, so that a concrete state can be
tested against it. -/

namespace Sys2Proof.Machine

/-- Every COLOR word has bits 31:29 equal to 0; its BR field then holds the rest of bits 31:24 (R22). The parameter
P_INIT_WORD has them 0 too, as both of the spec's readings do (R12), since INIT writes it to every word. -/
abbrev ColorOk (s : State) : Prop := topOf s.initWord = 0 ∧ ∀ i : Fin Config.pN, topOf s.color[i] = 0

/-- While BUSY, SEQ_TRACE is the list of SEQ_CMD on the present COLOR and DIRECTION, and SEQ_POS is a position of it
(R30, R31). -/
abbrev SequencerOk (s : State) : Prop :=
  s.life = .busy → s.seqTrace = eventList s.seqCmd s.color s.direction ∧ s.seqPos < s.seqTrace.length

/-- FAIL_POS and FAIL_EV are set for a transport failure and clear for every other response (R28). -/
abbrev ResponseOk (s : State) : Prop :=
  if s.resp.status = .transportFailure then s.resp.failPos ≤ 938 ∧ s.resp.failEv ≠ none
  else s.resp.failPos = 0 ∧ s.resp.failEv = none

/-- While BUSY, the last SEQ_POS entries of the history are the first SEQ_POS events of SEQ_TRACE, in order, each
answered `Ok` (R63, R149). -/
abbrev HistoryOk (s : State) : Prop :=
  s.life = .busy → ∃ before, s.history = before ++ (s.seqTrace.take s.seqPos).map fun ev => (ev, Answer.ok)

/-- The clock line is known to be high only inside a pulse: the block is BUSY and the next event is `SetClock(0)`
(R266). -/
abbrev ClockOk (s : State) : Prop :=
  s.clkOut = .high → s.life = .busy ∧ s.seqTrace[s.seqPos]? = some (.setClock false)

/-- No model fault has been recorded: the run still says something about the hardware (R215, R220). -/
abbrev Unfaulted (s : State) : Prop := s.fault = none

end Sys2Proof.Machine
end

