-- ==== Sys2Proof/Certificates/Slice0/Obligations.lean ====
section
/-! DEFINITION. The statements for the provers. Each docstring names the rules of spec/ that the statement formalises.
A result is written as the whole next state, so that it is the frame as well: what the record update does not name is
unchanged. The block has no byte-addressed memory (20_memory.md R50), so the buffer words take the place of memory. -/

open Sys2Proof Sys2Proof.Machine

namespace Sys2Proof.Statements

/-- The block is constructed, idle and unfaulted: the gate admits every command but INIT (R214). -/
abbrev Ready (s : State) : Prop := s.fault = none ∧ s.life = .ready

/-- OK with no value (R210). -/
abbrev okResp : Resp := ⟨.ok, 0, 0, none⟩

/-- The response that records the failure of the event at position k (R151). -/
abbrev failureResp (k : Nat) (ev : Event) : Resp := ⟨.transportFailure, 0, k, some ev⟩

/-- The status word of a failure at position k, `0x00kk0002` (R79). -/
abbrev failureWord (k : Nat) : Word := BitVec.ofNat 32 (k * 65536 + 2)

/-- Commands in a row, each on the state the one before it left, as long as every one answers a next state (R61). -/
def execAll : List Instr → State → Option State
  | [], s => some s
  | i :: is, s =>
    match exec i s with
    | .next t => execAll is t
    | .fault _ => none
    | .refused _ => none

/-- The 32 bits of a word, bit 31 first (R83). -/
abbrev bits32 (w : Word) : List Bool := (List.range 32).map fun k => w.getLsbD (31 - k)

/-- LIFE after a list that succeeded (R150, R194, R196). -/
abbrev lifeOk (c : SeqCmd) : Life := if c = .release then .released else .ready

/-- LIFE after a list that failed (R151, R194, R196). -/
abbrev lifeFail (c : SeqCmd) : Life :=
  if c = .release then .released else if c = .init then .uninit else .ready

/-- DATA_OUT after an event answered `Ok` (R174). -/
def dataAfterOk (old : Level) : Event → Level
  | .setData v => if v then .high else .low
  | .configure .data => .low
  | .close .data => .x
  | .setClock _ => old
  | .configure .clk => old
  | .close .clk => old

/-- CLK_OUT after an event answered `Ok` (R174). -/
def clkAfterOk (old : Level) : Event → Level
  | .setClock v => if v then .high else .low
  | .configure .clk => .low
  | .close .clk => .x
  | .setData _ => old
  | .configure .data => old
  | .close .data => old

/-- DATA_OUT after an event answered `Fail` (R177). -/
def dataAfterFail (old : Level) : Event → Level
  | .setData _ => .x
  | .configure .data => .x
  | .close .data => .x
  | .setClock _ => old
  | .configure .clk => old
  | .close .clk => old

/-- CLK_OUT after an event answered `Fail` (R177). -/
def clkAfterFail (old : Level) : Event → Level
  | .setClock _ => .x
  | .configure .clk => .x
  | .close .clk => .x
  | .setData _ => old
  | .configure .data => old
  | .close .data => old

/-- The status numbers (R80). -/
def statusNumber : Status → Nat
  | .ok => 0
  | .invalidArgument => 1
  | .transportFailure => 2
  | .illegalCommand => 3

end Sys2Proof.Statements

open Sys2Proof.Statements

/-! ### Power-on, the gate, and which agent moves -/

/-- R37, R250, R180: the values the spec gives the state after power-on. -/
def Obligations.PowerOnState : Prop :=
  State.reset.life = .uninit ∧ State.reset.fault = none ∧ State.reset.dataOut = .x ∧ State.reset.clkOut = .x ∧
    ∀ p : Fin 8, State.reset.display[p] = .unknown

/-- The invariants of Safety.lean hold after power-on. The model's choice where R37 leaves the values open (log entry
11): COLOR, RESP and the history hold what that entry and entry 12 name. -/
def Obligations.PowerOnMeetsInvariants : Prop :=
  ColorOk State.reset ∧ SequencerOk State.reset ∧ ResponseOk State.reset ∧ HistoryOk State.reset ∧
    ClockOk State.reset ∧ Unfaulted State.reset

/-- R251 with the model's choice of log entry 4: outside BUSY, with no whole command on the port, a step changes
nothing. -/
def Obligations.IdleBlockChangesNothing : Prop :=
  ∀ s : State, s.fault = none → s.life ≠ .busy → decode s.port = .incomplete → step s = .next s

/-- R61, R75, R214: outside BUSY a step runs the command that stands on the port. The model's choice of log entry 14: it
runs on the state whose port has lost that command's words, for a command the gate turns away too. -/
def Obligations.StepRunsPresentedCommand : Prop :=
  ∀ s : State, s.fault = none → s.life ≠ .busy →
    (∀ i rest, decode s.port = .instr i rest → step s = exec i { s with port := rest }) ∧
    (∀ why rest, decode s.port = .illegal why rest → step s = execIllegal { s with port := rest })

/-- R149, R5, with the model's choices of log entries 3 and 4: in BUSY a step is the sequencer's, when the host waits for
its response (entry 3 holds that in a Bool of State) or has presented no whole command (entry 4: an incomplete command is
no presentation, so it does not fault). -/
def Obligations.BusyStepIsSequencerStep : Prop :=
  ∀ s : State, s.fault = none → s.life = .busy → (s.hostWaits = true ∨ decode s.port = .incomplete) →
    step s = seqStep s

/-- R214, R216, R257: a command presented during BUSY sets FAULT to ConcurrentCommand, whichever goes first; the two
orders are all there is (log entry 5). The model's choices: the step takes the command's words off the port (log entry
14), the free value of the order is drawn from the counter (log entry 5), and nothing else changes in the faulted next
state but what the sequencer's step changed (log entry 13, DEDUCED). What counts as presented is log entries 3 and 4. -/
def Obligations.CommandDuringBusyFaults : Prop :=
  ∀ (s : State) (rest : List Word), s.fault = none → s.life = .busy → s.hostWaits = false →
    ((∃ i, decode s.port = .instr i rest) ∨ ∃ why, decode s.port = .illegal why rest) →
    ∃ t : State, step s = .next t ∧ t.fault = some .concurrentCommand ∧ t.port = rest ∧ t.color = s.color ∧
      t.brightness = s.brightness ∧ t.direction = s.direction ∧
      (t = { s with port := rest, draws := s.draws + 1, fault := some .concurrentCommand } ∨
        ∃ u : State, seqStep { s with port := rest, draws := s.draws + 1 } = .next u ∧
          t = { u with fault := some .concurrentCommand })

/-- R215, R197, with R214's table: each misuse sets FAULT to its reason and gives no response. The model's reading of log
entry 13 (DEDUCED): the misuse is a next state, and nothing else changes in it. -/
def Obligations.MisuseSetsFault : Prop :=
  ∀ (i : Instr) (s : State), s.fault = none →
    (s.life = .uninit → i ≠ .init → exec i s = .next { s with fault := some .useBeforeInit }) ∧
    (s.life = .ready → i = .init → exec i s = .next { s with fault := some .secondInstance }) ∧
    (s.life = .busy → exec i s = .next { s with fault := some .concurrentCommand }) ∧
    (s.life = .released → i = .release → exec i s = .next { s with fault := some .doubleRelease }) ∧
    (s.life = .released → i ≠ .release → i ≠ .init → exec i s = .next { s with fault := some .useAfterRelease }) ∧
    (s.life = .uninit → execIllegal s = .next { s with fault := some .useBeforeInit }) ∧
    (s.life = .busy → execIllegal s = .next { s with fault := some .concurrentCommand }) ∧
    (s.life = .released → execIllegal s = .next { s with fault := some .useAfterRelease })

/-- R213: in READY, ILLEGAL answers ILLEGAL_COMMAND and changes no other state. -/
def Obligations.IllegalCommandIsAnswered : Prop :=
  ∀ s : State, Ready s →
    execIllegal s = .next { s with resp := ⟨.illegalCommand, 0, 0, none⟩, respWords := [0x00000003] }

/-- R220: once FAULT is set, neither a step nor any command does anything. -/
def Obligations.FaultIsSticky : Prop :=
  ∀ (s : State) (r : FaultReason), s.fault = some r →
    step s = .fault (.halted r) ∧ (∀ i : Instr, exec i s = .fault (.halted r)) ∧ execIllegal s = .fault (.halted r)

/-- R215: FAULT is set only by a command that is presented; the sequencer never sets it. What counts as presented is the
model's choice of log entries 3 and 4: nothing while the host waits, and nothing but a whole command. -/
def Obligations.FaultNeedsPresentedCommand : Prop :=
  ∀ s t : State, s.fault = none → step s = .next t →
    ((s.life = .busy ∧ s.hostWaits = true) ∨ decode s.port = .incomplete) → t.fault = none

/-! ### The strip-state commands -/

/-- R101: SET_BRIGHTNESS, both outcomes, in READY; and its encoding. -/
def Obligations.SetBrightnessResult : Prop :=
  ∀ (level : Word) (rest : List Word) (s : State), Ready s →
    exec (.setBrightness level) s = .next
      (if 0 ≤ level.toInt ∧ level.toInt ≤ 31 then
        { s with brightness := BitVec.ofInt 5 level.toInt, resp := okResp, respWords := [0x00000000] }
      else { s with resp := ⟨.invalidArgument, 0, 0, none⟩, respWords := [0x00000001] }) ∧
    decode (0x10000000 :: level :: rest) = .instr (.setBrightness level) rest

/-- R102, with the response words of R79: GET_BRIGHTNESS answers the register in a second response word and changes
nothing else; and its encoding. -/
def Obligations.GetBrightnessResult : Prop :=
  ∀ (rest : List Word) (s : State), Ready s →
    exec .getBrightness s = .next { s with
      resp := ⟨.ok, BitVec.ofNat 32 s.brightness.toNat, 0, none⟩
      respWords := [0x00000000, BitVec.ofNat 32 s.brightness.toNat] } ∧
    decode (0x20000000 :: rest) = .instr .getBrightness rest

/-- R103: SET_DIRECTION in READY; its encoding; and that any other argument word decodes to ILLEGAL. -/
def Obligations.SetDirectionResult : Prop :=
  ∀ (d : Direction) (rest : List Word) (s : State), Ready s →
    exec (.setDirection d) s = .next { s with direction := d, resp := okResp, respWords := [0x00000000] } ∧
    decode (0x30000000 :: (if d = .reversed then 1 else 0) :: rest) = .instr (.setDirection d) rest ∧
    ∀ a : Word, 1 < a.toNat → decode (0x30000000 :: a :: rest) = .illegal .badDirection rest

/-- R104, with the response words of R79: GET_DIRECTION answers 0 for Normal and 1 for Reversed; and its encoding. -/
def Obligations.GetDirectionResult : Prop :=
  ∀ (rest : List Word) (s : State), Ready s →
    exec .getDirection s = .next { s with
      resp := ⟨.ok, if s.direction = .reversed then 1 else 0, 0, none⟩
      respWords := [0x00000000, if s.direction = .reversed then 1 else 0] } ∧
    decode (0x40000000 :: rest) = .instr .getDirection rest

/-- R105: SET_COLOR, both outcomes, in READY; and its encoding. -/
def Obligations.SetColorResult : Prop :=
  ∀ (index color : Word) (rest : List Word) (s : State), Ready s →
    exec (.setColor index color) s = .next
      (if 0 ≤ index.toInt ∧ index.toInt < 8 then
        { s with
          color := s.color.setIfInBounds index.toNat
            ((s.brightness.zeroExtend 32 <<< 24) ||| (color &&& 0x00FFFFFF))
          resp := okResp
          respWords := [0x00000000] }
      else { s with resp := ⟨.invalidArgument, 0, 0, none⟩, respWords := [0x00000001] }) ∧
    decode (0x50000000 :: index :: color :: rest) = .instr (.setColor index color) rest

/-- R106, R217: SET_COLOR_B, both outcomes, in READY; BRIGHTNESS is neither read nor written; and its encoding. -/
def Obligations.SetColorBResult : Prop :=
  ∀ (index color brightness : Word) (rest : List Word) (s : State), Ready s →
    exec (.setColorB index color brightness) s = .next
      (if (0 ≤ index.toInt ∧ index.toInt < 8) ∧ (0 ≤ brightness.toInt ∧ brightness.toInt ≤ 31) then
        { s with
          color := s.color.setIfInBounds index.toNat ((brightness <<< 24) ||| (color &&& 0x00FFFFFF))
          resp := okResp
          respWords := [0x00000000] }
      else { s with resp := ⟨.invalidArgument, 0, 0, none⟩, respWords := [0x00000001] }) ∧
    decode (0x60000000 :: index :: color :: brightness :: rest) = .instr (.setColorB index color brightness) rest

/-- R107: WRITE stores words 0 to min(L, 8) - 1 with the default brightness, leaves the others, and starts a show of
the new words. -/
def Obligations.WriteResult : Prop :=
  ∀ (elems : List Word) (s : State), Ready s →
    ∃ buf : Vector Word 8,
      (∀ j : Fin 8, buf[j] =
        if j.val < elems.length then (s.brightness.zeroExtend 32 <<< 24) ||| (elems.getD j.val 0 &&& 0x00FFFFFF)
        else s.color[j]) ∧
      exec (.write elems) s = .next { s with
        color := buf
        seqTrace := showTrace buf s.direction
        seqPos := 0
        seqCmd := .write
        life := .busy }

/-- R140: SHOW takes its snapshot and makes LIFE BUSY; nothing else changes. -/
def Obligations.ShowResult : Prop :=
  ∀ s : State, Ready s →
    exec .showCmd s = .next { s with
      seqTrace := showTrace s.color s.direction
      seqPos := 0
      seqCmd := .showCmd
      life := .busy }

/-- R190 to R193, R12: INIT sets the default state and starts its list, whatever P_INIT_WORD is; its default, the value
at power-on, is 0x0F000000. That the parameter is a field of State is log entry 26. -/
def Obligations.InitResult : Prop :=
  State.reset.initWord = 0x0F000000 ∧
  ∀ s : State, s.fault = none → (s.life = .uninit ∨ s.life = .released) →
    exec .init s = .next { s with
      color := Vector.replicate 8 s.initWord
      brightness := 15
      direction := .normal
      seqTrace := [.configure .data, .configure .clk] ++ showTrace (Vector.replicate 8 s.initWord) .normal
      seqPos := 0
      seqCmd := .init
      life := .busy }

/-- R195: RELEASE starts the two Close events and keeps every other register. -/
def Obligations.ReleaseResult : Prop :=
  ∀ s : State, Ready s →
    exec .release s = .next { s with
      seqTrace := [.close .data, .close .clk]
      seqPos := 0
      seqCmd := .release
      life := .busy }

/-- R100: the formula of a packed word and its fields, for every brightness and colour. -/
def Obligations.PackLayout : Prop :=
  ∀ (br : BitVec 5) (c : Word),
    pack br c = (br.zeroExtend 32 <<< 24) ||| (c &&& 0x00FFFFFF) ∧
    pack br c = (0 : BitVec 3) ++ br ++ c.extractLsb' 0 24

/-- R88, R105: SET_COLOR is SET_COLOR_B with the BRIGHTNESS of the moment, in every state. -/
def Obligations.SetColorUsesDefaultBrightness : Prop :=
  ∀ (index color : Word) (s : State),
    exec (.setColor index color) s = exec (.setColorB index color (s.brightness.zeroExtend 32)) s

/-- R88, R107: WRITE leaves the COLOR state and starts the trace of the SET_COLORs of its first eight elements followed
by SHOW. -/
def Obligations.WriteIsSetColorsThenShow : Prop :=
  ∀ (elems : List Word) (s : State), Ready s →
    ∃ t u : State, exec (.write elems) s = .next t ∧
      execAll (((elems.take 8).zipIdx.map fun e => Instr.setColor (BitVec.ofNat 32 e.2) e.1) ++ [.showCmd]) s = some u ∧
      t.color = u.color ∧ t.seqTrace = u.seqTrace ∧ t.seqPos = u.seqPos ∧ t.life = u.life

/-- R108: after SET_COLOR_B of all eight words, the COLOR state is the eight packed words, whatever was there. -/
def Obligations.ColorRoundTrip : Prop :=
  ∀ (b : Fin 8 → BitVec 5) (c : Fin 8 → Word) (s : State), Ready s →
    ∃ t : State,
      execAll ((List.finRange 8).map fun i =>
        Instr.setColorB (BitVec.ofNat 32 i.val) (c i) ((b i).zeroExtend 32)) s = some t ∧
      (∀ i : Fin 8, t.color[i] = pack (b i) (c i)) ∧ Ready t ∧ t.brightness = s.brightness ∧
      t.direction = s.direction ∧ t.history = s.history

/-! ### Encodings -/

/-- R70 to R75: decoding the words of a well-formed command gives it back, with the words after it left on the port. -/
def Obligations.DecodeEncode : Prop :=
  ∀ (i : Instr) (rest : List Word), i.wf = true → decode (encode i ++ rest) = .instr i rest

/-- R70 to R75: only the words of a well-formed command decode to it, so each command has one encoding. -/
def Obligations.EncodeDecode : Prop :=
  ∀ (ws : List Word) (i : Instr) (rest : List Word),
    decode ws = .instr i rest → ws = encode i ++ rest ∧ i.wf = true

/-- R75, R76, R78: exactly which words decode to ILLEGAL, why, and how many are consumed. -/
def Obligations.IllegalEncodings : Prop :=
  ∀ (hdr : Word) (ws rest : List Word) (why : Illegal),
    decode (hdr :: ws) = .illegal why rest ↔
      (why = .reservedOpcode ∧ (hdr.toNat / 2 ^ 28 = 0 ∨ 0xB ≤ hdr.toNat / 2 ^ 28) ∧ rest = ws) ∨
      (why = .reservedBits ∧ hdr.toNat / 2 ^ 28 ≠ 0 ∧ hdr.toNat / 2 ^ 28 ≠ 7 ∧ hdr.toNat / 2 ^ 28 < 0xB ∧
        hdr.toNat % 2 ^ 28 ≠ 0 ∧ rest = ws) ∨
      (why = .badDirection ∧ hdr = 0x30000000 ∧ ∃ a : Word, ws = a :: rest ∧ 1 < a.toNat)

/-- R73, R75 and the vectors V-DEC of 95_test_vectors.md: words written out from the spec decode as it says. -/
def Obligations.SpecWordsDecode : Prop :=
  decode [0x10000000, 0x0000001F] = .instr (.setBrightness 31) [] ∧
  decode [0x20000000] = .instr .getBrightness [] ∧
  decode [0x30000000, 0x00000001] = .instr (.setDirection .reversed) [] ∧
  decode [0x40000000] = .instr .getDirection [] ∧
  decode [0x50000000, 0x00000007, 0x000000FF] = .instr (.setColor 7 0xFF) [] ∧
  decode [0x60000000, 0x00000003, 0x00112233, 0x0000001F] = .instr (.setColorB 3 0x112233 31) [] ∧
  decode [0x70000003, 0x00000001, 0x00000002, 0x00000003] = .instr (.write [1, 2, 3]) [] ∧
  decode [0x80000000] = .instr .showCmd [] ∧
  decode [0x90000000] = .instr .release [] ∧
  decode [0xA0000000] = .instr .init [] ∧
  decode [0x10000001, 0x0000001F] = .illegal .reservedBits [0x0000001F] ∧
  decode [0xB0000000] = .illegal .reservedOpcode [] ∧
  decode [0x30000000, 0x00000002] = .illegal .badDirection []

/-- R87: lines of assembler text and their words; the first is the rule's own example. A number that does not fit in 32
bits is refused, and the method names of the source are aliases. -/
def Obligations.AssemblerLines : Prop :=
  assemble "SET_COLOR_B 3, 0x112233, 31" = some [0x60000000, 0x00000003, 0x00112233, 0x0000001F] ∧
  assemble "setColor 3, 0x112233, 31" = some [0x60000000, 0x00000003, 0x00112233, 0x0000001F] ∧
  assemble "setColor 2, 0xFF8000" = some [0x50000000, 0x00000002, 0x00FF8000] ∧
  assemble "SET_COLOR -1, 255" = some [0x50000000, 0xFFFFFFFF, 0x000000FF] ∧
  assemble "SET_BRIGHTNESS -2147483648" = some [0x10000000, 0x80000000] ∧
  assemble "SET_DIRECTION REVERSED" = some [0x30000000, 0x00000001] ∧
  assemble "WRITE []" = some [0x70000000] ∧
  assemble "WRITE [0xFF0000, 0x00FF00]" = some [0x70000002, 0x00FF0000, 0x0000FF00] ∧
  assemble "SET_BRIGHTNESS 4294967296" = none ∧
  assemble "SET_BRIGHTNESS -2147483649" = none

/-- R87, R75: whatever line the assembler takes, its words are those of one well-formed command, and the decoder reads
that command from them and leaves nothing over. -/
def Obligations.AssembledLinesDecode : Prop :=
  ∀ (line : String) (ws : List Word), assemble line = some ws →
    ∃ i : Instr, i.wf = true ∧ ws = encode i ∧ decode ws = .instr i []

/-- R79, R80: the fields of response word 0, for a FAIL_POS that fits its field (R28 bounds it by 938). -/
def Obligations.StatusWordLayout : Prop :=
  ∀ r : Resp, r.failPos ≤ 938 →
    (statusWord r).toNat =
      (if r.status = .transportFailure then r.failPos else 0) * 65536 + statusNumber r.status

/-! ### The trace -/

/-- R146: the length of a show's trace and the event at every position of it. -/
def Obligations.ShowTracePositions : Prop :=
  ∀ (color : Vector Word 8) (d : Direction),
    (showTrace color d).length = 937 ∧
    (∀ n : Fin 32,
      (showTrace color d)[3 * n.val]? = some (.setData false) ∧
      (showTrace color d)[3 * n.val + 1]? = some (.setClock true) ∧
      (showTrace color d)[3 * n.val + 2]? = some (.setClock false)) ∧
    (∀ (p : Fin 8) (q : Fin 4) (j : Fin 8),
      (showTrace color d)[96 + 96 * p.val + 24 * q.val + 3 * (7 - j.val)]? =
        some (.setData (((frameBytes color[src p d]).getD q.val 0).getLsbD j.val)) ∧
      (showTrace color d)[96 + 96 * p.val + 24 * q.val + 3 * (7 - j.val) + 1]? = some (.setClock true) ∧
      (showTrace color d)[96 + 96 * p.val + 24 * q.val + 3 * (7 - j.val) + 2]? = some (.setClock false)) ∧
    (showTrace color d)[864]? = some (.setData false) ∧
    (∀ m : Fin 36,
      (showTrace color d)[865 + 2 * m.val]? = some (.setClock true) ∧
      (showTrace color d)[866 + 2 * m.val]? = some (.setClock false))

/-- R265, R31: how many events, clock pulses and data events each list has, whatever the colours. -/
def Obligations.EventCounts : Prop :=
  ∀ (color : Vector Word 8) (d : Direction),
    (showTrace color d).count (.setClock true) = 324 ∧
    (showTrace color d).count (.setClock false) = 324 ∧
    (showTrace color d).count (.setData false) + (showTrace color d).count (.setData true) = 289 ∧
    (eventList .showCmd color d).length = 937 ∧
    (eventList .write color d).length = 937 ∧
    (eventList .init color d).length = 939 ∧
    (eventList .release color d).length = 2

/-- R52, R83, R144: the four bytes of an LED frame and its 32-bit value, by the spec's shifts and masks. -/
def Obligations.FrameLayout : Prop :=
  ∀ w : Word,
    frameBytes w = [0xE0 ||| ((w >>> 24) &&& 0x1F).truncate 8, w.truncate 8, (w >>> 8).truncate 8, (w >>> 16).truncate 8] ∧
    frameValue w = 0xE0000000 ||| (((w >>> 24) &&& 0x1F) <<< 24) ||| ((w &&& 0xFF) <<< 16) |||
      (((w >>> 8) &&& 0xFF) <<< 8) ||| ((w >>> 16) &&& 0xFF)

/-- R143: the direction mapping, and that it is a bijection. -/
def Obligations.DirectionMapping : Prop :=
  (∀ p : Fin 8, src p .normal = p) ∧ (∀ p : Fin 8, (src p .reversed).val = 8 - 1 - p.val) ∧
    ∀ (d : Direction) (i : Fin 8), ∃ p : Fin 8, src p d = i ∧ ∀ q : Fin 8, src q d = i → q = p

/-- R81 to R85: the 324 wire bits of a show are the start frame, the LED frames in wire order with bit 31 first, and
the end sequence, whatever level the data line had before. -/
def Obligations.ShowWireBits : Prop :=
  ∀ (color : Vector Word 8) (d : Direction) (level : Bool),
    wireBits level (showTrace color d) =
      List.replicate 32 false ++ ((List.finRange 8).flatMap fun p => bits32 (frameValue color[src p d])) ++
        List.replicate 36 false

/-- R86: every LED frame begins with three 1 bits, so none is all zero. -/
def Obligations.FrameStartsWithMarker : Prop :=
  ∀ w : Word, (bits32 (frameValue w)).take 3 = [true, true, true] ∧ frameValue w ≠ 0

/-- R148: the trace a SHOW starts depends on COLOR and DIRECTION alone. -/
def Obligations.TraceDependsOnBufferAndDirection : Prop :=
  ∀ s t : State, Ready s → Ready t → s.color = t.color → s.direction = t.direction →
    ∃ s' t' : State, exec .showCmd s = .next s' ∧ exec .showCmd t = .next t' ∧ s'.seqTrace = t'.seqTrace

/-- R266, R81: in every list, a `SetClock(1)` is directly followed by `SetClock(0)`, so the data line never changes
inside a pulse. -/
def Obligations.PulsesAreClosed : Prop :=
  ∀ (c : SeqCmd) (color : Vector Word 8) (d : Direction) (k : Nat),
    (eventList c color d)[k]? = some (.setClock true) → (eventList c color d)[k + 1]? = some (.setClock false)

/-! ### The sequencer -/

/-- R149, R174, R150, R194, R196: a sequencer step whose event is answered `Ok`, be the answer fixed or drawn. The model's
choices: the fixed answers are a list of State that the step shortens (log entry 6), and the sequencer's registers keep
their values after the list has ended (log entry 22). -/
def Obligations.OkAnswerStep : Prop :=
  ∀ (s : State) (ev : Event),
    s.seqTrace[s.seqPos]? = some ev → nextAnswer s = some .ok →
    ∃ t : State, seqStep s = .next t ∧
      t.history = s.history ++ [(ev, .ok)] ∧ t.seqPos = s.seqPos + 1 ∧ t.answers = s.answers.tail ∧
      t.dataOut = dataAfterOk s.dataOut ev ∧ t.clkOut = clkAfterOk s.clkOut ev ∧
      t.color = s.color ∧ t.brightness = s.brightness ∧ t.direction = s.direction ∧ t.fault = s.fault ∧
      t.port = s.port ∧ t.hostWaits = s.hostWaits ∧ t.seqTrace = s.seqTrace ∧ t.seqCmd = s.seqCmd ∧
      (s.seqPos + 1 = s.seqTrace.length → t.life = lifeOk s.seqCmd ∧ t.resp = okResp ∧ t.respWords = [0x00000000]) ∧
      (s.seqPos + 1 ≠ s.seqTrace.length → t.life = s.life ∧ t.resp = s.resp ∧ t.respWords = s.respWords)

/-- R149, R177, R151, R194, R196: a sequencer step whose event is answered `Fail`, be the answer fixed or drawn. The
model's choices: the fixed answers are a list of State that the step shortens (log entry 6), and the sequencer's registers
keep their values after the list has ended (log entry 22). -/
def Obligations.FailAnswerStep : Prop :=
  ∀ (s : State) (ev : Event),
    s.seqTrace[s.seqPos]? = some ev → nextAnswer s = some .fail →
    ∃ t : State, seqStep s = .next t ∧
      t.history = s.history ++ [(ev, .fail)] ∧ t.answers = s.answers.tail ∧
      t.dataOut = dataAfterFail s.dataOut ev ∧ t.clkOut = clkAfterFail s.clkOut ev ∧
      t.color = s.color ∧ t.brightness = s.brightness ∧ t.direction = s.direction ∧ t.fault = s.fault ∧
      t.port = s.port ∧ t.hostWaits = s.hostWaits ∧ t.seqTrace = s.seqTrace ∧ t.seqCmd = s.seqCmd ∧
      t.seqPos = s.seqPos ∧ t.life = lifeFail s.seqCmd ∧ t.resp = failureResp s.seqPos ev

/-- R173, R178, R262, in the model's form of log entries 6 and 7: the answer is the first of those fixed, or the oracle's
draw where none is fixed. Under the fairness of R178 (the draw is an answer) the sequencer takes its step, whatever the
answer is; where no answer comes, nothing is emitted and the transport stays silent; and a silent transport holds the block
in BUSY for ever, with no timeout, since no number of steps changes the state. -/
def Obligations.OracleAnswersFreely : Prop :=
  ∀ (s : State) (ev : Event), s.seqTrace[s.seqPos]? = some ev →
    (∀ a more, s.answers = a :: more →
      ∃ t : State, seqStep s = .next t ∧ t.history = s.history ++ [(ev, a)] ∧ t.answers = more) ∧
    (s.answers = [] → s.transportSilent = false →
      ∃ t : State, seqStep s = .next t ∧ t.answers = [] ∧
        ((∃ r, Config.transportAnswer s.draws = some r ∧ t.history = s.history ++ [(ev, r)] ∧ s.draws < t.draws) ∨
          (Config.transportAnswer s.draws = none ∧ t = { s with transportSilent := true }))) ∧
    (s.answers = [] → s.transportSilent = true → s.fault = none → s.life = .busy → s.hostWaits = true →
      ∀ k, core.run k s = .next s)

/-- R181, R182, R259, with log entries 8, 9 and 10: what the strip displays after a sequencer step. DISPLAY changes only in
the step that ends a show: to the frames, when every event was answered and CLK_OUT was 0 at the show's first event (whose
place is log entry 10); else to a draw of the free value (log entry 8). Every other step keeps it: inside a show, where no
answer comes, at INIT's Configure events, a failed one too, and in RELEASE, which is the model's reading of R259 (log entry
9, DEDUCED). -/
def Obligations.DisplayAfterSequencerStep : Prop :=
  ∀ (s t : State) (k : Nat), s.life = .busy → SequencerOk s → seqStep s = .next t →
    k = (if s.seqCmd = .init then 2 else 0) →
    let showing := s.seqCmd ≠ .release ∧ k ≤ s.seqPos
    let completed := nextAnswer s = some .ok ∧ s.seqPos + 1 = s.seqTrace.length
    (showing → completed → t.clkAtShow = .low → ∀ p : Fin 8, t.display[p] = shownOf s.color[src p s.direction]) ∧
    (showing → (completed ∧ t.clkAtShow ≠ .low ∨ nextAnswer s = some .fail) →
      ∃ n, s.draws ≤ n ∧ ∀ p : Fin 8, t.display[p] = Config.displayDraw n p.val) ∧
    (¬(showing ∧ (completed ∨ nextAnswer s = some .fail)) → t.display = s.display) ∧
    (s.seqCmd ≠ .release ∧ s.seqPos = k ∧ nextAnswer s ≠ none → t.clkAtShow = s.clkOut) ∧
    (¬(s.seqCmd ≠ .release ∧ s.seqPos = k ∧ nextAnswer s ≠ none) → t.clkAtShow = s.clkAtShow)

/-- R148, R151, R218, R31: no step from BUSY changes COLOR, BRIGHTNESS or DIRECTION, whatever the transport answers and
whatever the host presents. -/
def Obligations.BusyKeepsRegisters : Prop :=
  ∀ s t : State, s.life = .busy → step s = .next t →
    t.color = s.color ∧ t.brightness = s.brightness ∧ t.direction = s.direction

/-- R175, R176: a step adds at most one entry to the event history and changes none that is there; outside BUSY it adds
none. -/
def Obligations.HistoryOnlyGrows : Prop :=
  ∀ s t : State, step s = .next t →
    ∃ new : List (Event × Answer), t.history = s.history ++ new ∧ new.length ≤ 1 ∧ (s.life ≠ .busy → new = [])

/-- R182 ("Between shows, DISPLAY does not change"), R259: outside BUSY no step changes what the strip displays. That
in BUSY none does but the step that ends the list is the model's reading of R259 (log entry 9, DEDUCED). -/
def Obligations.DisplayKeptBetweenShows : Prop :=
  ∀ s t : State, (s.life ≠ .busy ∨ t.life = .busy) → step s = .next t → t.display = s.display

/-- R251, R235, R254: from UNINIT and RELEASED the only change of LIFE is INIT's start; from READY it is the start of a
SHOW, a WRITE or a RELEASE. -/
def Obligations.LifeLeavesOnlyByItsCommands : Prop :=
  ∀ s t : State, s.life ≠ .busy → step s = .next t → t.life ≠ s.life →
    t.life = .busy ∧ t.seqPos = 0 ∧ t.history = s.history ∧
      ((s.life = .uninit ∨ s.life = .released) → t.seqCmd = .init) ∧ (s.life = .ready → t.seqCmd ≠ .init)

/-! ### Whole runs -/

/-- R140, R149, R150, R152, R181: a SHOW from READY, presented by a host that waits, with every event answered
`Ok`. The waiting host and the fixed answers are fields of the model (log entries 3 and 6); that the command's words
are taken off the port is log entry 14. -/
def Obligations.ShowRunsToCompletion : Prop :=
  ∀ (s : State) (rest : List Word) (more : List Answer), Ready s → s.hostWaits = true →
    s.port = 0x80000000 :: rest → s.answers = List.replicate 937 .ok ++ more →
    ∃ t : State, core.run 938 s = .next t ∧ Ready t ∧ t.resp = okResp ∧ t.respWords = [0x00000000] ∧
      t.color = s.color ∧ t.brightness = s.brightness ∧ t.direction = s.direction ∧
      t.dataOut = .low ∧ t.clkOut = .low ∧
      t.history = s.history ++ (showTrace s.color s.direction).map (fun ev => (ev, Answer.ok)) ∧
      t.port = rest ∧ t.answers = more ∧ t.hostWaits = true ∧
      (s.clkOut = .low → ∀ p : Fin 8, t.display[p] = shownOf s.color[src p s.direction])

/-- R151, R177, R153: a SHOW whose event at position k is answered `Fail` after k answers `Ok`. The waiting host
and the fixed answers are fields of the model (log entries 3 and 6); that the command's words
are taken off the port is log entry 14. -/
def Obligations.ShowAbortsAtFailure : Prop :=
  ∀ (s : State) (rest : List Word) (more : List Answer) (k : Nat) (ev : Event), Ready s → s.hostWaits = true →
    s.port = 0x80000000 :: rest → (showTrace s.color s.direction)[k]? = some ev →
    s.answers = List.replicate k .ok ++ .fail :: more →
    ∃ t : State, core.run (k + 2) s = .next t ∧ Ready t ∧ t.resp = failureResp k ev ∧
      t.respWords = [failureWord k] ∧
      t.color = s.color ∧ t.brightness = s.brightness ∧ t.direction = s.direction ∧
      t.history = s.history ++ ((showTrace s.color s.direction).take k).map (fun e => (e, Answer.ok)) ++ [(ev, .fail)] ∧
      t.port = rest ∧ t.answers = more ∧ (lineOf ev = .data → t.dataOut = .x) ∧ (lineOf ev = .clk → t.clkOut = .x)

/-- R107, R151, R221: a WRITE whose show fails answers one TRANSPORT_FAILURE and keeps its buffer writes. The
waiting host and the fixed answers are fields of the model (log entries 3 and 6); that the command's words
are taken off the port is log entry 14. -/
def Obligations.FailedWriteKeepsBuffer : Prop :=
  ∀ (s : State) (elems rest : List Word) (more : List Answer) (k : Nat), Ready s → s.hostWaits = true →
    elems.length < 2 ^ 28 → s.port = encode (.write elems) ++ rest → k < 937 →
    s.answers = List.replicate k .ok ++ .fail :: more →
    ∃ (t : State) (ev : Event), core.run (k + 2) s = .next t ∧ Ready t ∧ t.resp = failureResp k ev ∧
      (∀ j : Fin 8, t.color[j] =
        if j.val < elems.length then pack s.brightness (elems.getD j.val 0) else s.color[j]) ∧
      (showTrace t.color s.direction)[k]? = some ev ∧ t.brightness = s.brightness ∧ t.direction = s.direction ∧
      t.history.length = s.history.length + k + 1 ∧ t.port = rest

/-- R107, R88: a WRITE with every event answered `Ok` sends the new words. The waiting host and the fixed answers are
fields of the model (log entries 3 and 6); that the command's words
are taken off the port is log entry 14. -/
def Obligations.WriteRunsToCompletion : Prop :=
  ∀ (s : State) (elems rest : List Word) (more : List Answer), Ready s → s.hostWaits = true →
    elems.length < 2 ^ 28 → s.port = encode (.write elems) ++ rest → s.answers = List.replicate 937 .ok ++ more →
    ∃ t : State, core.run 938 s = .next t ∧ Ready t ∧ t.resp = okResp ∧ t.respWords = [0x00000000] ∧
      (∀ j : Fin 8, t.color[j] =
        if j.val < elems.length then pack s.brightness (elems.getD j.val 0) else s.color[j]) ∧
      t.brightness = s.brightness ∧ t.direction = s.direction ∧ t.dataOut = .low ∧ t.clkOut = .low ∧
      t.history = s.history ++ (showTrace t.color s.direction).map (fun ev => (ev, Answer.ok)) ∧ t.port = rest ∧
      (s.clkOut = .low → ∀ p : Fin 8, t.display[p] = shownOf t.color[src p s.direction])

/-- R38, R190 to R194, R12: INIT with every event answered `Ok`, from any state that admits it, whatever P_INIT_WORD is
(a field of State, log entry 26). With its default 0x0F000000 every LED shows (15, 0, 0, 0). With the other reading, 0, every
LED shows (0, 0, 0, 0). The waiting host and the fixed answers are fields of the model (log entries 3 and 6); that the command's words
are taken off the port is log entry 14. -/
def Obligations.InitRunsToReady : Prop :=
  ∀ (s : State) (rest : List Word) (more : List Answer), s.fault = none →
    (s.life = .uninit ∨ s.life = .released) → s.hostWaits = true →
    s.port = 0xA0000000 :: rest → s.answers = List.replicate 939 .ok ++ more →
    ∃ t : State, core.run 940 s = .next t ∧ Ready t ∧ (∀ i : Fin 8, t.color[i] = s.initWord) ∧ t.brightness = 15 ∧
      t.direction = .normal ∧ t.resp = okResp ∧ t.respWords = [0x00000000] ∧ t.dataOut = .low ∧ t.clkOut = .low ∧
      t.history = s.history ++ ([Event.configure .data, Event.configure .clk] ++
        showTrace (Vector.replicate 8 s.initWord) .normal).map (fun ev => (ev, Answer.ok)) ∧
      t.port = rest ∧ t.initWord = s.initWord ∧ (∀ p : Fin 8, t.display[p] = shownOf s.initWord) ∧
      (s.initWord = 0x0F000000 → ∀ p : Fin 8, t.display[p] = .lit ⟨15, 0, 0, 0⟩) ∧
      (s.initWord = 0x00000000 → ∀ p : Fin 8, t.display[p] = .lit ⟨0, 0, 0, 0⟩)

/-- R194: an INIT whose event at position k fails leaves LIFE UNINIT, at the Configure events and in the initial show
alike. INIT's list is the one for the block's P_INIT_WORD (log entry 26). That a failed Configure keeps DISPLAY is the
reading of log entry 9; the waiting host and the fixed answers are
fields of the model (log entries 3 and 6); that the command's words
are taken off the port is log entry 14. -/
def Obligations.InitAbortsAtFailure : Prop :=
  ∀ (s : State) (rest : List Word) (more : List Answer) (k : Nat), s.fault = none →
    (s.life = .uninit ∨ s.life = .released) → s.hostWaits = true →
    s.port = 0xA0000000 :: rest → k < 939 → s.answers = List.replicate k .ok ++ .fail :: more →
    ∃ (t : State) (ev : Event), core.run (k + 2) s = .next t ∧ t.fault = none ∧ t.life = .uninit ∧
      t.resp = failureResp k ev ∧ t.respWords = [failureWord k] ∧
      (eventList .init (Vector.replicate 8 s.initWord) .normal)[k]? = some ev ∧
      t.history.length = s.history.length + k + 1 ∧ t.port = rest ∧
      (k < 2 → t.display = s.display)

/-- R195, R196: RELEASE with both events answered `Ok`, and with either one failing; LIFE is RELEASED in every case and
the strip keeps what it displays. The waiting host and the fixed answers are fields of the model (log entries 3 and 6). -/
def Obligations.ReleaseRuns : Prop :=
  ∀ (s : State) (rest : List Word) (more : List Answer), Ready s → s.hostWaits = true →
    s.port = 0x90000000 :: rest →
    (s.answers = .ok :: .ok :: more →
      ∃ t : State, core.run 3 s = .next t ∧ t.life = .released ∧ t.resp = okResp ∧ t.dataOut = .x ∧ t.clkOut = .x ∧
        t.display = s.display ∧ t.history = s.history ++ [(.close .data, .ok), (.close .clk, .ok)]) ∧
    (s.answers = .fail :: more →
      ∃ t : State, core.run 2 s = .next t ∧ t.life = .released ∧ t.resp = failureResp 0 (.close .data) ∧
        t.dataOut = .x ∧ t.clkOut = s.clkOut ∧ t.display = s.display ∧
        t.history = s.history ++ [(.close .data, .fail)]) ∧
    (s.answers = .ok :: .fail :: more →
      ∃ t : State, core.run 3 s = .next t ∧ t.life = .released ∧ t.resp = failureResp 1 (.close .clk) ∧
        t.dataOut = .x ∧ t.clkOut = .x ∧ t.display = s.display ∧
        t.history = s.history ++ [(.close .data, .ok), (.close .clk, .fail)])

/-- R261: whatever the clock line's register holds, two SHOWs in a row with every event answered `Ok` repair the
display. The waiting host and the fixed answers are fields of the model (log entries 3 and 6). -/
def Obligations.TwoShowsRepairDisplay : Prop :=
  ∀ (s : State) (rest : List Word) (more : List Answer), Ready s → s.hostWaits = true →
    s.port = 0x80000000 :: 0x80000000 :: rest → s.answers = List.replicate 1874 .ok ++ more →
    ∃ t : State, core.run 1876 s = .next t ∧ Ready t ∧ t.dataOut = .low ∧ t.clkOut = .low ∧ t.color = s.color ∧
      ∀ p : Fin 8, t.display[p] = shownOf s.color[src p s.direction]

/-! ### Invariants -/

/-- R22, R12: every step keeps bits 31:29 of every COLOR word zero, if P_INIT_WORD has them zero; and no step changes
P_INIT_WORD (log entry 26). -/
def Obligations.StepKeepsColorFields : Prop :=
  ∀ s t : State, step s = .next t → t.initWord = s.initWord ∧ (ColorOk s → ColorOk t)

/-- R30, R31: every step keeps SEQ_TRACE the running command's list and SEQ_POS a position of it while BUSY. -/
def Obligations.StepKeepsSequencer : Prop :=
  ∀ s t : State, SequencerOk s → step s = .next t → SequencerOk t

/-- R28, R211: every step keeps FAIL_POS within 0 to 938, and FAIL_POS and FAIL_EV clear unless STATUS is
TRANSPORT_FAILURE. -/
def Obligations.StepKeepsResponse : Prop :=
  ∀ s t : State, SequencerOk s → ResponseOk s → step s = .next t → ResponseOk t

/-- R63, R149, R255: while BUSY, what has gone out is exactly the first SEQ_POS events of the list, in order. -/
def Obligations.StepKeepsHistory : Prop :=
  ∀ s t : State, HistoryOk s → step s = .next t → HistoryOk t

/-- R266: the clock line is known to be high only between a `SetClock(1)` and the `SetClock(0)` that directly follows
it. -/
def Obligations.StepKeepsClockInPulses : Prop :=
  ∀ s t : State, SequencerOk s → ClockOk s → step s = .next t → ClockOk t
end

