-- ==== Sys2Proof/Laws/Decode.lean ====
section
/-! SUPPORT. What the header's two fields and the decoder answer (30_encoding.md R71, R75). -/

namespace Sys2Proof

/-- A header word as a number (R71). -/
theorem toNat_header (op : BitVec 4) (l : BitVec 28) : (header op l).toNat = op.toNat * 2 ^ 28 + l.toNat := by
  have h : (header op l).toNat = op.toNat <<< 28 ||| l.toNat := BitVec.toNat_append op l
  rw [h, Nat.shiftLeft_eq, Nat.mul_comm, ← Nat.two_pow_add_eq_or_of_lt l.isLt, Nat.mul_comm]

/-- OP as a number (R71). -/
theorem toNat_opcodeOf (hdr : Word) : (opcodeOf hdr).toNat = hdr.toNat / 2 ^ 28 := by
  have := hdr.isLt
  simp [opcodeOf, Nat.shiftRight_eq_div_pow]
  omega

/-- L as a number (R71). -/
theorem toNat_lengthOf (hdr : Word) : (lengthOf hdr).toNat = hdr.toNat % 2 ^ 28 := by
  simp [lengthOf]

/-- OP of a header (R71). -/
@[simp] theorem opcodeOf_header (op : BitVec 4) (l : BitVec 28) : opcodeOf (header op l) = op := by
  apply BitVec.eq_of_toNat_eq
  have := l.isLt
  rw [toNat_opcodeOf, toNat_header]
  omega

/-- L of a header (R71). -/
@[simp] theorem lengthOf_header (op : BitVec 4) (l : BitVec 28) : lengthOf (header op l) = l := by
  apply BitVec.eq_of_toNat_eq
  have := l.isLt
  rw [toNat_lengthOf, toNat_header]
  omega

/-- A word is the header of its own two fields (R71). -/
@[simp] theorem header_fields (hdr : Word) : header (opcodeOf hdr) (lengthOf hdr) = hdr := by
  apply BitVec.eq_of_toNat_eq
  rw [toNat_header, toNat_opcodeOf, toNat_lengthOf]
  omega

/-- The decoder on a header that is legal and whose arguments have all been presented (R75). -/
theorem decode_whole {hdr : Word} {args rest : List Word}
    (hop : opcodeOf hdr = 0x7 ∨ fixedArgs (opcodeOf hdr) ≠ none ∧ lengthOf hdr = 0)
    (hlen : args.length = argCount hdr) :
    decode (hdr :: (args ++ rest)) = ofArgs (opcodeOf hdr) args rest := by
  have h1 : ¬(opcodeOf hdr ≠ 0x7 ∧ fixedArgs (opcodeOf hdr) = none) := by
    rintro ⟨a, b⟩
    rcases hop with h | ⟨h, _⟩
    · exact a h
    · exact h b
  have h2 : ¬(opcodeOf hdr ≠ 0x7 ∧ lengthOf hdr ≠ 0) := by
    rintro ⟨a, b⟩
    rcases hop with h | ⟨_, h⟩
    · exact a h
    · exact b h
  rw [decode, if_neg h1, if_neg h2, if_neg (by simp [hlen])]
  rw [← hlen, List.take_left, List.drop_left]

end Sys2Proof
end

