-- ==== Sys2Proof/Laws/Flags.lean ====
section
/-! SUPPORT. The response words of each kind of response (30_encoding.md R79, R80). -/

namespace Sys2Proof.Machine

/-- A status other than TRANSPORT_FAILURE is sent as its code alone (R79). -/
theorem statusWord_of_no_failure {r : Resp} (h : r.status ≠ .transportFailure) :
    statusWord r = (statusCode r.status).zeroExtend 32 := by
  obtain ⟨st, v, k, ev⟩ := r
  cases st with
  | transportFailure => exact absurd rfl h
  | ok => simp [statusWord, failPosField, statusCode]
  | invalidArgument => simp [statusWord, failPosField, statusCode]
  | illegalCommand => simp [statusWord, failPosField, statusCode]

/-- A GET command's OK: the status word 0, then the value (R79). -/
@[simp] theorem responseWords_get (v : Word) : responseWords true ⟨.ok, v, 0, none⟩ = [0, v] := by
  simp [responseWords, statusWord_of_no_failure, statusCode]

/-- Any other command's OK (R79). -/
@[simp] theorem responseWords_ok (v : Word) : responseWords false ⟨.ok, v, 0, none⟩ = [0] := by
  simp [responseWords, statusWord_of_no_failure, statusCode]

/-- INVALID_ARGUMENT (R79, R211). -/
@[simp] theorem responseWords_invalid (v : Word) : responseWords false ⟨.invalidArgument, v, 0, none⟩ = [1] := by
  simp [responseWords, statusWord_of_no_failure, statusCode]

/-- ILLEGAL_COMMAND (R79, R213). -/
@[simp] theorem responseWords_illegal (v : Word) : responseWords false ⟨.illegalCommand, v, 0, none⟩ = [3] := by
  simp [responseWords, statusWord_of_no_failure, statusCode]

end Sys2Proof.Machine
end

