-- ==== Sys2Proof/Laws/Operands.lean ====
section
/-! SUPPORT. What the argument readings, the packing and the direction mapping answer. -/

namespace Sys2Proof.Machine

/-- A brightness argument is accepted exactly in 0 to 31 and is then kept whole (R74). -/
theorem brightnessArg_eq_some_iff {w : Word} {br : BitVec 5} :
    brightnessArg w = some br ↔ w = br.zeroExtend 32 := by
  unfold brightnessArg
  constructor
  · intro h
    split at h
    next hr =>
      obtain rfl := Option.some.inj h
      have hw : w.toNat ≤ 31 := by
        simp only [Config.pBrMax] at hr
        have := hr.1
        have := hr.2
        simp only [s32, BitVec.toInt_eq_toNat_cond] at *
        split at * <;> omega
      apply BitVec.eq_of_toNat_eq
      simp
      omega
    next => cases h
  · rintro rfl
    have hb := br.isLt
    rw [if_pos]
    · congr 1
      apply BitVec.eq_of_toNat_eq
      simp
      omega
    · simp only [s32, BitVec.toInt_eq_toNat_cond]
      simp
      omega

/-- The 5-bit register's value, passed as an argument word, reads back as itself (R88). -/
@[simp] theorem brightnessArg_zeroExtend (br : BitVec 5) : brightnessArg (br.zeroExtend 32) = some br :=
  brightnessArg_eq_some_iff.mpr rfl

/-- An index argument is accepted exactly when it is one of the eight buffer indices (R50). -/
theorem indexArg_eq_some_iff {w : Word} {i : Fin Config.pN} :
    indexArg w = some i ↔ w = BitVec.ofNat 32 i.val := by
  unfold indexArg
  constructor
  · intro h
    split at h
    next hr =>
      obtain rfl := Option.some.inj h
      have hw : w.toNat < 8 ∧ s32 w = w.toNat := by
        simp only [Config.pN] at hr
        have := hr.1
        have := hr.2
        simp only [s32, BitVec.toInt_eq_toNat_cond] at *
        split at * <;> omega
      apply BitVec.eq_of_toNat_eq
      simp [hw.2, Config.pN]
      omega
    next => cases h
  · rintro rfl
    have hi : i.val < 8 := i.isLt
    have hs : s32 (BitVec.ofNat 32 i.val) = i.val := by
      simp only [s32, BitVec.toInt_eq_toNat_cond]
      simp
      omega
    rw [if_pos (by rw [hs]; simp)]
    congr 1
    apply Fin.ext
    rw [hs]
    simp

/-- A buffer index, passed as an argument word, reads back as itself (R50). -/
@[simp] theorem indexArg_ofNat (i : Fin Config.pN) : indexArg (BitVec.ofNat 32 i.val) = some i :=
  indexArg_eq_some_iff.mpr rfl

/-- Bits 31:29 of a packed word are zero (R22, R100). -/
@[simp] theorem topOf_pack (br : BitVec 5) (c : Word) : topOf (pack br c) = 0 := by
  apply BitVec.eq_of_getLsbD_eq
  intro i hi
  have : i = 0 ∨ i = 1 ∨ i = 2 := by omega
  rcases this with rfl | rfl | rfl <;> simp [topOf, pack]

/-- Bits 28:24 of a packed word are its brightness (R100). -/
@[simp] theorem brOf_pack (br : BitVec 5) (c : Word) : brOf (pack br c) = br := by
  apply BitVec.eq_of_getLsbD_eq
  intro i hi
  have : i = 0 ∨ i = 1 ∨ i = 2 ∨ i = 3 ∨ i = 4 := by omega
  rcases this with rfl | rfl | rfl | rfl | rfl <;> simp [brOf, pack]

/-- Normal order (R143). -/
@[simp] theorem src_normal (p : Fin Config.pN) : src p .normal = p := rfl

/-- Reversed order is its own inverse (R143). -/
@[simp] theorem src_src (p : Fin Config.pN) (d : Direction) : src (src p d) d = p := by
  cases d
  · rfl
  · revert p; decide

end Sys2Proof.Machine
end

