-- ==== Sys2Proof/Laws/State.lean ====
section
/-! SUPPORT. One lemma for each field of State and each named update: what the update leaves in that field. -/

namespace Sys2Proof.Machine

section
variable (s : State)

@[simp] theorem answerHost_color (g : Bool) (r : Resp) : (answerHost g r s).color = s.color := rfl
@[simp] theorem answerHost_brightness (g : Bool) (r : Resp) : (answerHost g r s).brightness = s.brightness := rfl
@[simp] theorem answerHost_direction (g : Bool) (r : Resp) : (answerHost g r s).direction = s.direction := rfl
@[simp] theorem answerHost_life (g : Bool) (r : Resp) : (answerHost g r s).life = s.life := rfl
@[simp] theorem answerHost_fault (g : Bool) (r : Resp) : (answerHost g r s).fault = s.fault := rfl
@[simp] theorem answerHost_resp (g : Bool) (r : Resp) : (answerHost g r s).resp = r := rfl
@[simp] theorem answerHost_dataOut (g : Bool) (r : Resp) : (answerHost g r s).dataOut = s.dataOut := rfl
@[simp] theorem answerHost_clkOut (g : Bool) (r : Resp) : (answerHost g r s).clkOut = s.clkOut := rfl
@[simp] theorem answerHost_seqPos (g : Bool) (r : Resp) : (answerHost g r s).seqPos = s.seqPos := rfl
@[simp] theorem answerHost_seqTrace (g : Bool) (r : Resp) : (answerHost g r s).seqTrace = s.seqTrace := rfl
@[simp] theorem answerHost_seqCmd (g : Bool) (r : Resp) : (answerHost g r s).seqCmd = s.seqCmd := rfl
@[simp] theorem answerHost_history (g : Bool) (r : Resp) : (answerHost g r s).history = s.history := rfl
@[simp] theorem answerHost_display (g : Bool) (r : Resp) : (answerHost g r s).display = s.display := rfl
@[simp] theorem answerHost_clkAtShow (g : Bool) (r : Resp) : (answerHost g r s).clkAtShow = s.clkAtShow := rfl
@[simp] theorem answerHost_port (g : Bool) (r : Resp) : (answerHost g r s).port = s.port := rfl
@[simp] theorem answerHost_respWords (g : Bool) (r : Resp) : (answerHost g r s).respWords = responseWords g r := rfl
@[simp] theorem answerHost_hostWaits (g : Bool) (r : Resp) : (answerHost g r s).hostWaits = s.hostWaits := rfl
@[simp] theorem answerHost_answers (g : Bool) (r : Resp) : (answerHost g r s).answers = s.answers := rfl
@[simp] theorem answerHost_transportSilent (g : Bool) (r : Resp) : (answerHost g r s).transportSilent = s.transportSilent := rfl
@[simp] theorem answerHost_initWord (g : Bool) (r : Resp) : (answerHost g r s).initWord = s.initWord := rfl
@[simp] theorem answerHost_draws (g : Bool) (r : Resp) : (answerHost g r s).draws = s.draws := rfl

@[simp] theorem respond_color (st : Status) : (respond st s).color = s.color := rfl
@[simp] theorem respond_brightness (st : Status) : (respond st s).brightness = s.brightness := rfl
@[simp] theorem respond_direction (st : Status) : (respond st s).direction = s.direction := rfl
@[simp] theorem respond_life (st : Status) : (respond st s).life = s.life := rfl
@[simp] theorem respond_fault (st : Status) : (respond st s).fault = s.fault := rfl
@[simp] theorem respond_resp (st : Status) : (respond st s).resp = ⟨st, 0, 0, none⟩ := rfl
@[simp] theorem respond_dataOut (st : Status) : (respond st s).dataOut = s.dataOut := rfl
@[simp] theorem respond_clkOut (st : Status) : (respond st s).clkOut = s.clkOut := rfl
@[simp] theorem respond_seqPos (st : Status) : (respond st s).seqPos = s.seqPos := rfl
@[simp] theorem respond_seqTrace (st : Status) : (respond st s).seqTrace = s.seqTrace := rfl
@[simp] theorem respond_seqCmd (st : Status) : (respond st s).seqCmd = s.seqCmd := rfl
@[simp] theorem respond_history (st : Status) : (respond st s).history = s.history := rfl
@[simp] theorem respond_display (st : Status) : (respond st s).display = s.display := rfl
@[simp] theorem respond_clkAtShow (st : Status) : (respond st s).clkAtShow = s.clkAtShow := rfl
@[simp] theorem respond_port (st : Status) : (respond st s).port = s.port := rfl
@[simp] theorem respond_respWords (st : Status) : (respond st s).respWords = responseWords false ⟨st, 0, 0, none⟩ := rfl
@[simp] theorem respond_hostWaits (st : Status) : (respond st s).hostWaits = s.hostWaits := rfl
@[simp] theorem respond_answers (st : Status) : (respond st s).answers = s.answers := rfl
@[simp] theorem respond_transportSilent (st : Status) : (respond st s).transportSilent = s.transportSilent := rfl
@[simp] theorem respond_initWord (st : Status) : (respond st s).initWord = s.initWord := rfl
@[simp] theorem respond_draws (st : Status) : (respond st s).draws = s.draws := rfl

@[simp] theorem respondValue_color (v : Word) : (respondValue v s).color = s.color := rfl
@[simp] theorem respondValue_brightness (v : Word) : (respondValue v s).brightness = s.brightness := rfl
@[simp] theorem respondValue_direction (v : Word) : (respondValue v s).direction = s.direction := rfl
@[simp] theorem respondValue_life (v : Word) : (respondValue v s).life = s.life := rfl
@[simp] theorem respondValue_fault (v : Word) : (respondValue v s).fault = s.fault := rfl
@[simp] theorem respondValue_resp (v : Word) : (respondValue v s).resp = ⟨.ok, v, 0, none⟩ := rfl
@[simp] theorem respondValue_dataOut (v : Word) : (respondValue v s).dataOut = s.dataOut := rfl
@[simp] theorem respondValue_clkOut (v : Word) : (respondValue v s).clkOut = s.clkOut := rfl
@[simp] theorem respondValue_seqPos (v : Word) : (respondValue v s).seqPos = s.seqPos := rfl
@[simp] theorem respondValue_seqTrace (v : Word) : (respondValue v s).seqTrace = s.seqTrace := rfl
@[simp] theorem respondValue_seqCmd (v : Word) : (respondValue v s).seqCmd = s.seqCmd := rfl
@[simp] theorem respondValue_history (v : Word) : (respondValue v s).history = s.history := rfl
@[simp] theorem respondValue_display (v : Word) : (respondValue v s).display = s.display := rfl
@[simp] theorem respondValue_clkAtShow (v : Word) : (respondValue v s).clkAtShow = s.clkAtShow := rfl
@[simp] theorem respondValue_port (v : Word) : (respondValue v s).port = s.port := rfl
@[simp] theorem respondValue_respWords (v : Word) : (respondValue v s).respWords = responseWords true ⟨.ok, v, 0, none⟩ := rfl
@[simp] theorem respondValue_hostWaits (v : Word) : (respondValue v s).hostWaits = s.hostWaits := rfl
@[simp] theorem respondValue_answers (v : Word) : (respondValue v s).answers = s.answers := rfl
@[simp] theorem respondValue_transportSilent (v : Word) : (respondValue v s).transportSilent = s.transportSilent := rfl
@[simp] theorem respondValue_initWord (v : Word) : (respondValue v s).initWord = s.initWord := rfl
@[simp] theorem respondValue_draws (v : Word) : (respondValue v s).draws = s.draws := rfl

@[simp] theorem respondFailure_color (k : Nat) (ev : Event) : (respondFailure k ev s).color = s.color := rfl
@[simp] theorem respondFailure_brightness (k : Nat) (ev : Event) : (respondFailure k ev s).brightness = s.brightness := rfl
@[simp] theorem respondFailure_direction (k : Nat) (ev : Event) : (respondFailure k ev s).direction = s.direction := rfl
@[simp] theorem respondFailure_life (k : Nat) (ev : Event) : (respondFailure k ev s).life = s.life := rfl
@[simp] theorem respondFailure_fault (k : Nat) (ev : Event) : (respondFailure k ev s).fault = s.fault := rfl
@[simp] theorem respondFailure_resp (k : Nat) (ev : Event) : (respondFailure k ev s).resp = ⟨.transportFailure, 0, k, some ev⟩ := rfl
@[simp] theorem respondFailure_dataOut (k : Nat) (ev : Event) : (respondFailure k ev s).dataOut = s.dataOut := rfl
@[simp] theorem respondFailure_clkOut (k : Nat) (ev : Event) : (respondFailure k ev s).clkOut = s.clkOut := rfl
@[simp] theorem respondFailure_seqPos (k : Nat) (ev : Event) : (respondFailure k ev s).seqPos = s.seqPos := rfl
@[simp] theorem respondFailure_seqTrace (k : Nat) (ev : Event) : (respondFailure k ev s).seqTrace = s.seqTrace := rfl
@[simp] theorem respondFailure_seqCmd (k : Nat) (ev : Event) : (respondFailure k ev s).seqCmd = s.seqCmd := rfl
@[simp] theorem respondFailure_history (k : Nat) (ev : Event) : (respondFailure k ev s).history = s.history := rfl
@[simp] theorem respondFailure_display (k : Nat) (ev : Event) : (respondFailure k ev s).display = s.display := rfl
@[simp] theorem respondFailure_clkAtShow (k : Nat) (ev : Event) : (respondFailure k ev s).clkAtShow = s.clkAtShow := rfl
@[simp] theorem respondFailure_port (k : Nat) (ev : Event) : (respondFailure k ev s).port = s.port := rfl
@[simp] theorem respondFailure_respWords (k : Nat) (ev : Event) : (respondFailure k ev s).respWords = responseWords false ⟨.transportFailure, 0, k, some ev⟩ := rfl
@[simp] theorem respondFailure_hostWaits (k : Nat) (ev : Event) : (respondFailure k ev s).hostWaits = s.hostWaits := rfl
@[simp] theorem respondFailure_answers (k : Nat) (ev : Event) : (respondFailure k ev s).answers = s.answers := rfl
@[simp] theorem respondFailure_transportSilent (k : Nat) (ev : Event) : (respondFailure k ev s).transportSilent = s.transportSilent := rfl
@[simp] theorem respondFailure_initWord (k : Nat) (ev : Event) : (respondFailure k ev s).initWord = s.initWord := rfl
@[simp] theorem respondFailure_draws (k : Nat) (ev : Event) : (respondFailure k ev s).draws = s.draws := rfl

@[simp] theorem raiseFault_color (r : FaultReason) : (raiseFault r s).color = s.color := rfl
@[simp] theorem raiseFault_brightness (r : FaultReason) : (raiseFault r s).brightness = s.brightness := rfl
@[simp] theorem raiseFault_direction (r : FaultReason) : (raiseFault r s).direction = s.direction := rfl
@[simp] theorem raiseFault_life (r : FaultReason) : (raiseFault r s).life = s.life := rfl
@[simp] theorem raiseFault_fault (r : FaultReason) : (raiseFault r s).fault = some r := rfl
@[simp] theorem raiseFault_resp (r : FaultReason) : (raiseFault r s).resp = s.resp := rfl
@[simp] theorem raiseFault_dataOut (r : FaultReason) : (raiseFault r s).dataOut = s.dataOut := rfl
@[simp] theorem raiseFault_clkOut (r : FaultReason) : (raiseFault r s).clkOut = s.clkOut := rfl
@[simp] theorem raiseFault_seqPos (r : FaultReason) : (raiseFault r s).seqPos = s.seqPos := rfl
@[simp] theorem raiseFault_seqTrace (r : FaultReason) : (raiseFault r s).seqTrace = s.seqTrace := rfl
@[simp] theorem raiseFault_seqCmd (r : FaultReason) : (raiseFault r s).seqCmd = s.seqCmd := rfl
@[simp] theorem raiseFault_history (r : FaultReason) : (raiseFault r s).history = s.history := rfl
@[simp] theorem raiseFault_display (r : FaultReason) : (raiseFault r s).display = s.display := rfl
@[simp] theorem raiseFault_clkAtShow (r : FaultReason) : (raiseFault r s).clkAtShow = s.clkAtShow := rfl
@[simp] theorem raiseFault_port (r : FaultReason) : (raiseFault r s).port = s.port := rfl
@[simp] theorem raiseFault_respWords (r : FaultReason) : (raiseFault r s).respWords = s.respWords := rfl
@[simp] theorem raiseFault_hostWaits (r : FaultReason) : (raiseFault r s).hostWaits = s.hostWaits := rfl
@[simp] theorem raiseFault_answers (r : FaultReason) : (raiseFault r s).answers = s.answers := rfl
@[simp] theorem raiseFault_transportSilent (r : FaultReason) : (raiseFault r s).transportSilent = s.transportSilent := rfl
@[simp] theorem raiseFault_initWord (r : FaultReason) : (raiseFault r s).initWord = s.initWord := rfl
@[simp] theorem raiseFault_draws (r : FaultReason) : (raiseFault r s).draws = s.draws := rfl

@[simp] theorem writeColor_color (i : Fin Config.pN) (v : Word) : (writeColor i v s).color = s.color.set i v := rfl
@[simp] theorem writeColor_brightness (i : Fin Config.pN) (v : Word) : (writeColor i v s).brightness = s.brightness := rfl
@[simp] theorem writeColor_direction (i : Fin Config.pN) (v : Word) : (writeColor i v s).direction = s.direction := rfl
@[simp] theorem writeColor_life (i : Fin Config.pN) (v : Word) : (writeColor i v s).life = s.life := rfl
@[simp] theorem writeColor_fault (i : Fin Config.pN) (v : Word) : (writeColor i v s).fault = s.fault := rfl
@[simp] theorem writeColor_resp (i : Fin Config.pN) (v : Word) : (writeColor i v s).resp = s.resp := rfl
@[simp] theorem writeColor_dataOut (i : Fin Config.pN) (v : Word) : (writeColor i v s).dataOut = s.dataOut := rfl
@[simp] theorem writeColor_clkOut (i : Fin Config.pN) (v : Word) : (writeColor i v s).clkOut = s.clkOut := rfl
@[simp] theorem writeColor_seqPos (i : Fin Config.pN) (v : Word) : (writeColor i v s).seqPos = s.seqPos := rfl
@[simp] theorem writeColor_seqTrace (i : Fin Config.pN) (v : Word) : (writeColor i v s).seqTrace = s.seqTrace := rfl
@[simp] theorem writeColor_seqCmd (i : Fin Config.pN) (v : Word) : (writeColor i v s).seqCmd = s.seqCmd := rfl
@[simp] theorem writeColor_history (i : Fin Config.pN) (v : Word) : (writeColor i v s).history = s.history := rfl
@[simp] theorem writeColor_display (i : Fin Config.pN) (v : Word) : (writeColor i v s).display = s.display := rfl
@[simp] theorem writeColor_clkAtShow (i : Fin Config.pN) (v : Word) : (writeColor i v s).clkAtShow = s.clkAtShow := rfl
@[simp] theorem writeColor_port (i : Fin Config.pN) (v : Word) : (writeColor i v s).port = s.port := rfl
@[simp] theorem writeColor_respWords (i : Fin Config.pN) (v : Word) : (writeColor i v s).respWords = s.respWords := rfl
@[simp] theorem writeColor_hostWaits (i : Fin Config.pN) (v : Word) : (writeColor i v s).hostWaits = s.hostWaits := rfl
@[simp] theorem writeColor_answers (i : Fin Config.pN) (v : Word) : (writeColor i v s).answers = s.answers := rfl
@[simp] theorem writeColor_transportSilent (i : Fin Config.pN) (v : Word) : (writeColor i v s).transportSilent = s.transportSilent := rfl
@[simp] theorem writeColor_initWord (i : Fin Config.pN) (v : Word) : (writeColor i v s).initWord = s.initWord := rfl
@[simp] theorem writeColor_draws (i : Fin Config.pN) (v : Word) : (writeColor i v s).draws = s.draws := rfl

@[simp] theorem setDefaults_color : (setDefaults s).color = Vector.replicate Config.pN s.initWord := rfl
@[simp] theorem setDefaults_brightness : (setDefaults s).brightness = Config.pDefaultBrightness := rfl
@[simp] theorem setDefaults_direction : (setDefaults s).direction = .normal := rfl
@[simp] theorem setDefaults_life : (setDefaults s).life = s.life := rfl
@[simp] theorem setDefaults_fault : (setDefaults s).fault = s.fault := rfl
@[simp] theorem setDefaults_resp : (setDefaults s).resp = s.resp := rfl
@[simp] theorem setDefaults_dataOut : (setDefaults s).dataOut = s.dataOut := rfl
@[simp] theorem setDefaults_clkOut : (setDefaults s).clkOut = s.clkOut := rfl
@[simp] theorem setDefaults_seqPos : (setDefaults s).seqPos = s.seqPos := rfl
@[simp] theorem setDefaults_seqTrace : (setDefaults s).seqTrace = s.seqTrace := rfl
@[simp] theorem setDefaults_seqCmd : (setDefaults s).seqCmd = s.seqCmd := rfl
@[simp] theorem setDefaults_history : (setDefaults s).history = s.history := rfl
@[simp] theorem setDefaults_display : (setDefaults s).display = s.display := rfl
@[simp] theorem setDefaults_clkAtShow : (setDefaults s).clkAtShow = s.clkAtShow := rfl
@[simp] theorem setDefaults_port : (setDefaults s).port = s.port := rfl
@[simp] theorem setDefaults_respWords : (setDefaults s).respWords = s.respWords := rfl
@[simp] theorem setDefaults_hostWaits : (setDefaults s).hostWaits = s.hostWaits := rfl
@[simp] theorem setDefaults_answers : (setDefaults s).answers = s.answers := rfl
@[simp] theorem setDefaults_transportSilent : (setDefaults s).transportSilent = s.transportSilent := rfl
@[simp] theorem setDefaults_initWord : (setDefaults s).initWord = s.initWord := rfl
@[simp] theorem setDefaults_draws : (setDefaults s).draws = s.draws := rfl

@[simp] theorem startList_color (c : SeqCmd) : (startList c s).color = s.color := rfl
@[simp] theorem startList_brightness (c : SeqCmd) : (startList c s).brightness = s.brightness := rfl
@[simp] theorem startList_direction (c : SeqCmd) : (startList c s).direction = s.direction := rfl
@[simp] theorem startList_life (c : SeqCmd) : (startList c s).life = .busy := rfl
@[simp] theorem startList_fault (c : SeqCmd) : (startList c s).fault = s.fault := rfl
@[simp] theorem startList_resp (c : SeqCmd) : (startList c s).resp = s.resp := rfl
@[simp] theorem startList_dataOut (c : SeqCmd) : (startList c s).dataOut = s.dataOut := rfl
@[simp] theorem startList_clkOut (c : SeqCmd) : (startList c s).clkOut = s.clkOut := rfl
@[simp] theorem startList_seqPos (c : SeqCmd) : (startList c s).seqPos = 0 := rfl
@[simp] theorem startList_seqTrace (c : SeqCmd) : (startList c s).seqTrace = eventList c s.color s.direction := rfl
@[simp] theorem startList_seqCmd (c : SeqCmd) : (startList c s).seqCmd = c := rfl
@[simp] theorem startList_history (c : SeqCmd) : (startList c s).history = s.history := rfl
@[simp] theorem startList_display (c : SeqCmd) : (startList c s).display = s.display := rfl
@[simp] theorem startList_clkAtShow (c : SeqCmd) : (startList c s).clkAtShow = s.clkAtShow := rfl
@[simp] theorem startList_port (c : SeqCmd) : (startList c s).port = s.port := rfl
@[simp] theorem startList_respWords (c : SeqCmd) : (startList c s).respWords = s.respWords := rfl
@[simp] theorem startList_hostWaits (c : SeqCmd) : (startList c s).hostWaits = s.hostWaits := rfl
@[simp] theorem startList_answers (c : SeqCmd) : (startList c s).answers = s.answers := rfl
@[simp] theorem startList_transportSilent (c : SeqCmd) : (startList c s).transportSilent = s.transportSilent := rfl
@[simp] theorem startList_initWord (c : SeqCmd) : (startList c s).initWord = s.initWord := rfl
@[simp] theorem startList_draws (c : SeqCmd) : (startList c s).draws = s.draws := rfl

@[simp] theorem record_color (ev : Event) (r : Answer) : (record ev r s).color = s.color := rfl
@[simp] theorem record_brightness (ev : Event) (r : Answer) : (record ev r s).brightness = s.brightness := rfl
@[simp] theorem record_direction (ev : Event) (r : Answer) : (record ev r s).direction = s.direction := rfl
@[simp] theorem record_life (ev : Event) (r : Answer) : (record ev r s).life = s.life := rfl
@[simp] theorem record_fault (ev : Event) (r : Answer) : (record ev r s).fault = s.fault := rfl
@[simp] theorem record_resp (ev : Event) (r : Answer) : (record ev r s).resp = s.resp := rfl
@[simp] theorem record_dataOut (ev : Event) (r : Answer) : (record ev r s).dataOut = s.dataOut := rfl
@[simp] theorem record_clkOut (ev : Event) (r : Answer) : (record ev r s).clkOut = s.clkOut := rfl
@[simp] theorem record_seqPos (ev : Event) (r : Answer) : (record ev r s).seqPos = s.seqPos := rfl
@[simp] theorem record_seqTrace (ev : Event) (r : Answer) : (record ev r s).seqTrace = s.seqTrace := rfl
@[simp] theorem record_seqCmd (ev : Event) (r : Answer) : (record ev r s).seqCmd = s.seqCmd := rfl
@[simp] theorem record_history (ev : Event) (r : Answer) : (record ev r s).history = s.history ++ [(ev, r)] := rfl
@[simp] theorem record_display (ev : Event) (r : Answer) : (record ev r s).display = s.display := rfl
@[simp] theorem record_clkAtShow (ev : Event) (r : Answer) : (record ev r s).clkAtShow = s.clkAtShow := rfl
@[simp] theorem record_port (ev : Event) (r : Answer) : (record ev r s).port = s.port := rfl
@[simp] theorem record_respWords (ev : Event) (r : Answer) : (record ev r s).respWords = s.respWords := rfl
@[simp] theorem record_hostWaits (ev : Event) (r : Answer) : (record ev r s).hostWaits = s.hostWaits := rfl
@[simp] theorem record_answers (ev : Event) (r : Answer) : (record ev r s).answers = s.answers := rfl
@[simp] theorem record_transportSilent (ev : Event) (r : Answer) : (record ev r s).transportSilent = s.transportSilent := rfl
@[simp] theorem record_initWord (ev : Event) (r : Answer) : (record ev r s).initWord = s.initWord := rfl
@[simp] theorem record_draws (ev : Event) (r : Answer) : (record ev r s).draws = s.draws := rfl

@[simp] theorem drawDisplay_color : (drawDisplay s).color = s.color := rfl
@[simp] theorem drawDisplay_brightness : (drawDisplay s).brightness = s.brightness := rfl
@[simp] theorem drawDisplay_direction : (drawDisplay s).direction = s.direction := rfl
@[simp] theorem drawDisplay_life : (drawDisplay s).life = s.life := rfl
@[simp] theorem drawDisplay_fault : (drawDisplay s).fault = s.fault := rfl
@[simp] theorem drawDisplay_resp : (drawDisplay s).resp = s.resp := rfl
@[simp] theorem drawDisplay_dataOut : (drawDisplay s).dataOut = s.dataOut := rfl
@[simp] theorem drawDisplay_clkOut : (drawDisplay s).clkOut = s.clkOut := rfl
@[simp] theorem drawDisplay_seqPos : (drawDisplay s).seqPos = s.seqPos := rfl
@[simp] theorem drawDisplay_seqTrace : (drawDisplay s).seqTrace = s.seqTrace := rfl
@[simp] theorem drawDisplay_seqCmd : (drawDisplay s).seqCmd = s.seqCmd := rfl
@[simp] theorem drawDisplay_history : (drawDisplay s).history = s.history := rfl
@[simp] theorem drawDisplay_clkAtShow : (drawDisplay s).clkAtShow = s.clkAtShow := rfl
@[simp] theorem drawDisplay_port : (drawDisplay s).port = s.port := rfl
@[simp] theorem drawDisplay_respWords : (drawDisplay s).respWords = s.respWords := rfl
@[simp] theorem drawDisplay_hostWaits : (drawDisplay s).hostWaits = s.hostWaits := rfl
@[simp] theorem drawDisplay_answers : (drawDisplay s).answers = s.answers := rfl
@[simp] theorem drawDisplay_transportSilent : (drawDisplay s).transportSilent = s.transportSilent := rfl
@[simp] theorem drawDisplay_initWord : (drawDisplay s).initWord = s.initWord := rfl
@[simp] theorem drawDisplay_draws : (drawDisplay s).draws = s.draws + 1 := rfl

@[simp] theorem applyOk_color (ev : Event) : (applyOk ev s).color = s.color := rfl
@[simp] theorem applyOk_brightness (ev : Event) : (applyOk ev s).brightness = s.brightness := rfl
@[simp] theorem applyOk_direction (ev : Event) : (applyOk ev s).direction = s.direction := rfl
@[simp] theorem applyOk_life (ev : Event) : (applyOk ev s).life = s.life := rfl
@[simp] theorem applyOk_fault (ev : Event) : (applyOk ev s).fault = s.fault := rfl
@[simp] theorem applyOk_resp (ev : Event) : (applyOk ev s).resp = s.resp := rfl
@[simp] theorem applyOk_dataOut (ev : Event) : (applyOk ev s).dataOut = dataOutOk s.dataOut ev := rfl
@[simp] theorem applyOk_clkOut (ev : Event) : (applyOk ev s).clkOut = clkOutOk s.clkOut ev := rfl
@[simp] theorem applyOk_seqPos (ev : Event) : (applyOk ev s).seqPos = s.seqPos := rfl
@[simp] theorem applyOk_seqTrace (ev : Event) : (applyOk ev s).seqTrace = s.seqTrace := rfl
@[simp] theorem applyOk_seqCmd (ev : Event) : (applyOk ev s).seqCmd = s.seqCmd := rfl
@[simp] theorem applyOk_history (ev : Event) : (applyOk ev s).history = s.history := rfl
@[simp] theorem applyOk_display (ev : Event) : (applyOk ev s).display = s.display := rfl
@[simp] theorem applyOk_clkAtShow (ev : Event) : (applyOk ev s).clkAtShow = s.clkAtShow := rfl
@[simp] theorem applyOk_port (ev : Event) : (applyOk ev s).port = s.port := rfl
@[simp] theorem applyOk_respWords (ev : Event) : (applyOk ev s).respWords = s.respWords := rfl
@[simp] theorem applyOk_hostWaits (ev : Event) : (applyOk ev s).hostWaits = s.hostWaits := rfl
@[simp] theorem applyOk_answers (ev : Event) : (applyOk ev s).answers = s.answers := rfl
@[simp] theorem applyOk_transportSilent (ev : Event) : (applyOk ev s).transportSilent = s.transportSilent := rfl
@[simp] theorem applyOk_initWord (ev : Event) : (applyOk ev s).initWord = s.initWord := rfl
@[simp] theorem applyOk_draws (ev : Event) : (applyOk ev s).draws = s.draws := rfl

@[simp] theorem applyFail_color (ev : Event) : (applyFail ev s).color = s.color := rfl
@[simp] theorem applyFail_brightness (ev : Event) : (applyFail ev s).brightness = s.brightness := rfl
@[simp] theorem applyFail_direction (ev : Event) : (applyFail ev s).direction = s.direction := rfl
@[simp] theorem applyFail_life (ev : Event) : (applyFail ev s).life = s.life := rfl
@[simp] theorem applyFail_fault (ev : Event) : (applyFail ev s).fault = s.fault := rfl
@[simp] theorem applyFail_resp (ev : Event) : (applyFail ev s).resp = s.resp := rfl
@[simp] theorem applyFail_dataOut (ev : Event) : (applyFail ev s).dataOut = (if lineOf ev = .data then .x else s.dataOut) := rfl
@[simp] theorem applyFail_clkOut (ev : Event) : (applyFail ev s).clkOut = (if lineOf ev = .clk then .x else s.clkOut) := rfl
@[simp] theorem applyFail_seqPos (ev : Event) : (applyFail ev s).seqPos = s.seqPos := rfl
@[simp] theorem applyFail_seqTrace (ev : Event) : (applyFail ev s).seqTrace = s.seqTrace := rfl
@[simp] theorem applyFail_seqCmd (ev : Event) : (applyFail ev s).seqCmd = s.seqCmd := rfl
@[simp] theorem applyFail_history (ev : Event) : (applyFail ev s).history = s.history := rfl
@[simp] theorem applyFail_display (ev : Event) : (applyFail ev s).display = s.display := rfl
@[simp] theorem applyFail_clkAtShow (ev : Event) : (applyFail ev s).clkAtShow = s.clkAtShow := rfl
@[simp] theorem applyFail_port (ev : Event) : (applyFail ev s).port = s.port := rfl
@[simp] theorem applyFail_respWords (ev : Event) : (applyFail ev s).respWords = s.respWords := rfl
@[simp] theorem applyFail_hostWaits (ev : Event) : (applyFail ev s).hostWaits = s.hostWaits := rfl
@[simp] theorem applyFail_answers (ev : Event) : (applyFail ev s).answers = s.answers := rfl
@[simp] theorem applyFail_transportSilent (ev : Event) : (applyFail ev s).transportSilent = s.transportSilent := rfl
@[simp] theorem applyFail_initWord (ev : Event) : (applyFail ev s).initWord = s.initWord := rfl
@[simp] theorem applyFail_draws (ev : Event) : (applyFail ev s).draws = s.draws := rfl

@[simp] theorem markShowStart_color : (markShowStart s).color = s.color := rfl
@[simp] theorem markShowStart_brightness : (markShowStart s).brightness = s.brightness := rfl
@[simp] theorem markShowStart_direction : (markShowStart s).direction = s.direction := rfl
@[simp] theorem markShowStart_life : (markShowStart s).life = s.life := rfl
@[simp] theorem markShowStart_fault : (markShowStart s).fault = s.fault := rfl
@[simp] theorem markShowStart_resp : (markShowStart s).resp = s.resp := rfl
@[simp] theorem markShowStart_dataOut : (markShowStart s).dataOut = s.dataOut := rfl
@[simp] theorem markShowStart_clkOut : (markShowStart s).clkOut = s.clkOut := rfl
@[simp] theorem markShowStart_seqPos : (markShowStart s).seqPos = s.seqPos := rfl
@[simp] theorem markShowStart_seqTrace : (markShowStart s).seqTrace = s.seqTrace := rfl
@[simp] theorem markShowStart_seqCmd : (markShowStart s).seqCmd = s.seqCmd := rfl
@[simp] theorem markShowStart_history : (markShowStart s).history = s.history := rfl
@[simp] theorem markShowStart_display : (markShowStart s).display = s.display := rfl
@[simp] theorem markShowStart_clkAtShow : (markShowStart s).clkAtShow = (if showStart s.seqCmd = some s.seqPos then s.clkOut else s.clkAtShow) := rfl
@[simp] theorem markShowStart_port : (markShowStart s).port = s.port := rfl
@[simp] theorem markShowStart_respWords : (markShowStart s).respWords = s.respWords := rfl
@[simp] theorem markShowStart_hostWaits : (markShowStart s).hostWaits = s.hostWaits := rfl
@[simp] theorem markShowStart_answers : (markShowStart s).answers = s.answers := rfl
@[simp] theorem markShowStart_transportSilent : (markShowStart s).transportSilent = s.transportSilent := rfl
@[simp] theorem markShowStart_initWord : (markShowStart s).initWord = s.initWord := rfl
@[simp] theorem markShowStart_draws : (markShowStart s).draws = s.draws := rfl

@[simp] theorem takeAnswer_color : (takeAnswer s).color = s.color := rfl
@[simp] theorem takeAnswer_brightness : (takeAnswer s).brightness = s.brightness := rfl
@[simp] theorem takeAnswer_direction : (takeAnswer s).direction = s.direction := rfl
@[simp] theorem takeAnswer_life : (takeAnswer s).life = s.life := rfl
@[simp] theorem takeAnswer_fault : (takeAnswer s).fault = s.fault := rfl
@[simp] theorem takeAnswer_resp : (takeAnswer s).resp = s.resp := rfl
@[simp] theorem takeAnswer_dataOut : (takeAnswer s).dataOut = s.dataOut := rfl
@[simp] theorem takeAnswer_clkOut : (takeAnswer s).clkOut = s.clkOut := rfl
@[simp] theorem takeAnswer_seqPos : (takeAnswer s).seqPos = s.seqPos := rfl
@[simp] theorem takeAnswer_seqTrace : (takeAnswer s).seqTrace = s.seqTrace := rfl
@[simp] theorem takeAnswer_seqCmd : (takeAnswer s).seqCmd = s.seqCmd := rfl
@[simp] theorem takeAnswer_history : (takeAnswer s).history = s.history := rfl
@[simp] theorem takeAnswer_display : (takeAnswer s).display = s.display := rfl
@[simp] theorem takeAnswer_clkAtShow : (takeAnswer s).clkAtShow = s.clkAtShow := rfl
@[simp] theorem takeAnswer_port : (takeAnswer s).port = s.port := rfl
@[simp] theorem takeAnswer_respWords : (takeAnswer s).respWords = s.respWords := rfl
@[simp] theorem takeAnswer_hostWaits : (takeAnswer s).hostWaits = s.hostWaits := rfl
@[simp] theorem takeAnswer_answers : (takeAnswer s).answers = s.answers.tail := rfl
@[simp] theorem takeAnswer_transportSilent : (takeAnswer s).transportSilent = s.transportSilent := rfl
@[simp] theorem takeAnswer_initWord : (takeAnswer s).initWord = s.initWord := rfl
@[simp] theorem takeAnswer_draws : (takeAnswer s).draws = (if s.answers = [] then s.draws + 1 else s.draws) := rfl

@[simp] theorem awaitAnswer_color : (awaitAnswer s).color = s.color := rfl
@[simp] theorem awaitAnswer_brightness : (awaitAnswer s).brightness = s.brightness := rfl
@[simp] theorem awaitAnswer_direction : (awaitAnswer s).direction = s.direction := rfl
@[simp] theorem awaitAnswer_life : (awaitAnswer s).life = s.life := rfl
@[simp] theorem awaitAnswer_fault : (awaitAnswer s).fault = s.fault := rfl
@[simp] theorem awaitAnswer_resp : (awaitAnswer s).resp = s.resp := rfl
@[simp] theorem awaitAnswer_dataOut : (awaitAnswer s).dataOut = s.dataOut := rfl
@[simp] theorem awaitAnswer_clkOut : (awaitAnswer s).clkOut = s.clkOut := rfl
@[simp] theorem awaitAnswer_seqPos : (awaitAnswer s).seqPos = s.seqPos := rfl
@[simp] theorem awaitAnswer_seqTrace : (awaitAnswer s).seqTrace = s.seqTrace := rfl
@[simp] theorem awaitAnswer_seqCmd : (awaitAnswer s).seqCmd = s.seqCmd := rfl
@[simp] theorem awaitAnswer_history : (awaitAnswer s).history = s.history := rfl
@[simp] theorem awaitAnswer_display : (awaitAnswer s).display = s.display := rfl
@[simp] theorem awaitAnswer_clkAtShow : (awaitAnswer s).clkAtShow = s.clkAtShow := rfl
@[simp] theorem awaitAnswer_port : (awaitAnswer s).port = s.port := rfl
@[simp] theorem awaitAnswer_respWords : (awaitAnswer s).respWords = s.respWords := rfl
@[simp] theorem awaitAnswer_hostWaits : (awaitAnswer s).hostWaits = s.hostWaits := rfl
@[simp] theorem awaitAnswer_answers : (awaitAnswer s).answers = s.answers := rfl
@[simp] theorem awaitAnswer_transportSilent : (awaitAnswer s).transportSilent = true := rfl
@[simp] theorem awaitAnswer_initWord : (awaitAnswer s).initWord = s.initWord := rfl
@[simp] theorem awaitAnswer_draws : (awaitAnswer s).draws = s.draws := rfl

@[simp] theorem writeColors_brightness (es : List Word) : (writeColors es s).brightness = s.brightness := rfl
@[simp] theorem writeColors_direction (es : List Word) : (writeColors es s).direction = s.direction := rfl
@[simp] theorem writeColors_life (es : List Word) : (writeColors es s).life = s.life := rfl
@[simp] theorem writeColors_fault (es : List Word) : (writeColors es s).fault = s.fault := rfl
@[simp] theorem writeColors_resp (es : List Word) : (writeColors es s).resp = s.resp := rfl
@[simp] theorem writeColors_dataOut (es : List Word) : (writeColors es s).dataOut = s.dataOut := rfl
@[simp] theorem writeColors_clkOut (es : List Word) : (writeColors es s).clkOut = s.clkOut := rfl
@[simp] theorem writeColors_seqPos (es : List Word) : (writeColors es s).seqPos = s.seqPos := rfl
@[simp] theorem writeColors_seqTrace (es : List Word) : (writeColors es s).seqTrace = s.seqTrace := rfl
@[simp] theorem writeColors_seqCmd (es : List Word) : (writeColors es s).seqCmd = s.seqCmd := rfl
@[simp] theorem writeColors_history (es : List Word) : (writeColors es s).history = s.history := rfl
@[simp] theorem writeColors_display (es : List Word) : (writeColors es s).display = s.display := rfl
@[simp] theorem writeColors_clkAtShow (es : List Word) : (writeColors es s).clkAtShow = s.clkAtShow := rfl
@[simp] theorem writeColors_port (es : List Word) : (writeColors es s).port = s.port := rfl
@[simp] theorem writeColors_respWords (es : List Word) : (writeColors es s).respWords = s.respWords := rfl
@[simp] theorem writeColors_hostWaits (es : List Word) : (writeColors es s).hostWaits = s.hostWaits := rfl
@[simp] theorem writeColors_answers (es : List Word) : (writeColors es s).answers = s.answers := rfl
@[simp] theorem writeColors_transportSilent (es : List Word) : (writeColors es s).transportSilent = s.transportSilent := rfl
@[simp] theorem writeColors_initWord (es : List Word) : (writeColors es s).initWord = s.initWord := rfl
@[simp] theorem writeColors_draws (es : List Word) : (writeColors es s).draws = s.draws := rfl

@[simp] theorem present_color (ws : List Word) : (present ws s).color = s.color := rfl
@[simp] theorem present_brightness (ws : List Word) : (present ws s).brightness = s.brightness := rfl
@[simp] theorem present_direction (ws : List Word) : (present ws s).direction = s.direction := rfl
@[simp] theorem present_life (ws : List Word) : (present ws s).life = s.life := rfl
@[simp] theorem present_fault (ws : List Word) : (present ws s).fault = s.fault := rfl
@[simp] theorem present_resp (ws : List Word) : (present ws s).resp = s.resp := rfl
@[simp] theorem present_dataOut (ws : List Word) : (present ws s).dataOut = s.dataOut := rfl
@[simp] theorem present_clkOut (ws : List Word) : (present ws s).clkOut = s.clkOut := rfl
@[simp] theorem present_seqPos (ws : List Word) : (present ws s).seqPos = s.seqPos := rfl
@[simp] theorem present_seqTrace (ws : List Word) : (present ws s).seqTrace = s.seqTrace := rfl
@[simp] theorem present_seqCmd (ws : List Word) : (present ws s).seqCmd = s.seqCmd := rfl
@[simp] theorem present_history (ws : List Word) : (present ws s).history = s.history := rfl
@[simp] theorem present_display (ws : List Word) : (present ws s).display = s.display := rfl
@[simp] theorem present_clkAtShow (ws : List Word) : (present ws s).clkAtShow = s.clkAtShow := rfl
@[simp] theorem present_port (ws : List Word) : (present ws s).port = ws := rfl
@[simp] theorem present_respWords (ws : List Word) : (present ws s).respWords = s.respWords := rfl
@[simp] theorem present_hostWaits (ws : List Word) : (present ws s).hostWaits = (s.hostWaits && decide (s.life ≠ .busy)) := rfl
@[simp] theorem present_answers (ws : List Word) : (present ws s).answers = s.answers := rfl
@[simp] theorem present_transportSilent (ws : List Word) : (present ws s).transportSilent = s.transportSilent := rfl
@[simp] theorem present_initWord (ws : List Word) : (present ws s).initWord = s.initWord := rfl
@[simp] theorem present_draws (ws : List Word) : (present ws s).draws = s.draws := rfl

end

/-- What a new draw leaves LED `p` with: the free value (R182). -/
@[simp] theorem drawDisplay_display_get (s : State) (p : Fin Config.pN) :
    (drawDisplay s).display[p] = Config.displayDraw s.draws p.val := by
  simp [drawDisplay]

/-- What WRITE leaves word `j` with (R107). -/
@[simp] theorem writeColors_color_get (s : State) (es : List Word) (j : Fin Config.pN) :
    (writeColors es s).color[j] =
      if j.val < es.length then pack s.brightness (es.getD j.val 0) else s.color[j] := by
  by_cases h : j.val < es.length <;> simp [writeColors, h]

end Sys2Proof.Machine
end

