-- ==== Sys2Proof/Laws/Ops.lean ====
section
/-! SUPPORT. Everything a gated command can do, said once (60_exceptions.md R214 to R216), and what the meanings of
Machine/Dispatch.lean are in those terms. -/

namespace Sys2Proof.Machine

/-- In an unfaulted state that the gate admits, a command has its own effect (R216). -/
theorem gated_admitted {c : Column} {body : State → State} {s : State} (hf : s.fault = none)
    (hg : gate s.life c = none) : gated c body s = .next (body s) := by
  simp [gated, hf, hg]

/-- In an unfaulted state that the gate does not admit, a command sets FAULT and does nothing else (R215). -/
theorem gated_misuse {c : Column} {body : State → State} {s : State} {r : FaultReason} (hf : s.fault = none)
    (hg : gate s.life c = some r) : gated c body s = .next (raiseFault r s) := by
  simp [gated, hf, hg]

/-- In a faulted state no command does anything (R220). -/
theorem gated_halted {c : Column} {body : State → State} {s : State} {r : FaultReason} (hf : s.fault = some r) :
    gated c body s = .fault (.halted r) := by
  simp [gated, hf]

/-- All that a gated command can do when it answers a next state. -/
theorem gated_next {c : Column} {body : State → State} {s t : State} (h : gated c body s = .next t) :
    s.fault = none ∧
      ((gate s.life c = none ∧ t = body s) ∨ ∃ r, gate s.life c = some r ∧ t = raiseFault r s) := by
  unfold gated at h
  split at h
  · cases h
  next hf =>
    refine ⟨hf, ?_⟩
    split at h
    next r hg => exact .inr ⟨r, hg, by cases h; rfl⟩
    next hg => exact .inl ⟨hg, by cases h; rfl⟩

/-- The gate admits a command in BUSY never (R214). -/
@[simp] theorem gate_busy (c : Column) : gate .busy c = some .concurrentCommand := by cases c <;> rfl

/-- The column of the gate's table that a command stands in (R214). -/
def columnOf : Instr → Column
  | .init => .init
  | .release => .release
  | _ => .other

/-- A command's own effect, once the gate has admitted it. -/
def bodyOf : Instr → State → State
  | .setBrightness level, s =>
    match brightnessArg level with
    | some br => respond .ok { s with brightness := br }
    | none => respond .invalidArgument s
  | .getBrightness, s => respondValue (s.brightness.zeroExtend 32) s
  | .setDirection d, s => respond .ok { s with direction := d }
  | .getDirection, s => respondValue (directionValue s.direction) s
  | .setColor index color, s =>
    match indexArg index with
    | some i => respond .ok (writeColor i (pack s.brightness color) s)
    | none => respond .invalidArgument s
  | .setColorB index color brightness, s =>
    match indexArg index, brightnessArg brightness with
    | some i, some br => respond .ok (writeColor i (pack br color) s)
    | _, _ => respond .invalidArgument s
  | .write elems, s => showBody .write (writeColors elems s)
  | .showCmd, s => showBody .showCmd s
  | .release, s => startList .release s
  | .init, s => startList .init (setDefaults s)

/-- Every command is its own effect behind the gate. -/
theorem exec_eq_gated (i : Instr) (s : State) : exec i s = gated (columnOf i) (bodyOf i) s := by
  cases i <;> rfl

/-- All that a command can do when it answers a next state. -/
theorem exec_next {i : Instr} {s t : State} (h : exec i s = .next t) :
    s.fault = none ∧
      ((gate s.life (columnOf i) = none ∧ t = bodyOf i s) ∨
        ∃ r, gate s.life (columnOf i) = some r ∧ t = raiseFault r s) :=
  gated_next (exec_eq_gated i s ▸ h)

/-- What an admitted command can do to the state, by kind: it answers at once, with a new BRIGHTNESS, DIRECTION or
COLOR word, or it starts a list. -/
theorem bodyOf_cases (i : Instr) (s : State) :
    (∃ g r s', bodyOf i s = answerHost g r s' ∧ r.failPos = 0 ∧ r.failEv = none ∧ r.status ≠ .transportFailure ∧
      (s' = s ∨ (∃ br, s' = { s with brightness := br }) ∨ (∃ d, s' = { s with direction := d }) ∨
        ∃ j br e, s' = writeColor j (pack br e) s)) ∨
    (∃ c s', bodyOf i s = startList c s' ∧
      (s' = s ∨ (c = .write ∧ ∃ es, s' = writeColors es s) ∨ (c = .init ∧ s' = setDefaults s))) := by
  cases i with
  | setBrightness level =>
    simp only [bodyOf]
    split
    next br _ => exact .inl ⟨_, _, _, rfl, rfl, rfl, by simp, .inr (.inl ⟨br, rfl⟩)⟩
    next => exact .inl ⟨_, _, _, rfl, rfl, rfl, by simp, .inl rfl⟩
  | getBrightness => exact .inl ⟨_, _, _, rfl, rfl, rfl, by simp, .inl rfl⟩
  | setDirection d => exact .inl ⟨_, _, _, rfl, rfl, rfl, by simp, .inr (.inr (.inl ⟨d, rfl⟩))⟩
  | getDirection => exact .inl ⟨_, _, _, rfl, rfl, rfl, by simp, .inl rfl⟩
  | setColor index color =>
    simp only [bodyOf]
    split
    next j _ => exact .inl ⟨_, _, _, rfl, rfl, rfl, by simp, .inr (.inr (.inr ⟨j, _, _, rfl⟩))⟩
    next => exact .inl ⟨_, _, _, rfl, rfl, rfl, by simp, .inl rfl⟩
  | setColorB index color brightness =>
    simp only [bodyOf]
    split
    next j br _ _ => exact .inl ⟨_, _, _, rfl, rfl, rfl, by simp, .inr (.inr (.inr ⟨j, br, _, rfl⟩))⟩
    next => exact .inl ⟨_, _, _, rfl, rfl, rfl, by simp, .inl rfl⟩
  | write elems => exact .inr ⟨.write, _, rfl, .inr (.inl ⟨rfl, elems, rfl⟩)⟩
  | showCmd => exact .inr ⟨.showCmd, _, rfl, .inl rfl⟩
  | release => exact .inr ⟨.release, _, rfl, .inl rfl⟩
  | init => exact .inr ⟨.init, _, rfl, .inr (.inr ⟨rfl, rfl⟩)⟩

end Sys2Proof.Machine
end

