-- ==== Sys2Proof/Laws/PerInstr.lean ====
section
/-! SUPPORT. Per-instruction facts about encodings: the header alone gives a command's length (30_encoding.md R78). -/

namespace Sys2Proof.Laws.Length

/-- A well-formed command's words are its header and as many arguments as the header asks for (R78). -/
def Statement (i : Instr) : Prop :=
  i.wf = true → ∃ hdr args, encode i = hdr :: args ∧ args.length = argCount hdr

theorem setBrightness (level : Word) : Statement (.setBrightness level) := fun _ => ⟨_, _, rfl, rfl⟩
theorem getBrightness : Statement .getBrightness := fun _ => ⟨_, _, rfl, rfl⟩
theorem setDirection (d : Direction) : Statement (.setDirection d) := fun _ => ⟨_, _, rfl, rfl⟩
theorem getDirection : Statement .getDirection := fun _ => ⟨_, _, rfl, rfl⟩
theorem setColor (index color : Word) : Statement (.setColor index color) := fun _ => ⟨_, _, rfl, rfl⟩
theorem setColorB (index color brightness : Word) : Statement (.setColorB index color brightness) :=
  fun _ => ⟨_, _, rfl, rfl⟩

theorem write (elems : List Word) : Statement (.write elems) := by
  intro h
  refine ⟨_, _, rfl, ?_⟩
  have hl : elems.length < 2 ^ 28 := by simpa [Instr.wf] using h
  simp [argCount]
  omega

theorem showCmd : Statement .showCmd := fun _ => ⟨_, _, rfl, rfl⟩
theorem release : Statement .release := fun _ => ⟨_, _, rfl, rfl⟩
theorem init : Statement .init := fun _ => ⟨_, _, rfl, rfl⟩

end Sys2Proof.Laws.Length
end

