-- ==== Sys2Proof/Laws/Sequencer.lean ====
section
/-! SUPPORT. Everything a sequencer step can do, said once (41_protocol_encoder.md R149): which fields each of its parts
keeps, and the cases of its outcome. -/

namespace Sys2Proof.Machine

/-- What the whole of a sequencer step keeps: the registers that only commands write, the running list, the ports, the
parameter. -/
structure SameCommandState (s t : State) : Prop where
  color : t.color = s.color
  brightness : t.brightness = s.brightness
  direction : t.direction = s.direction
  fault : t.fault = s.fault
  seqTrace : t.seqTrace = s.seqTrace
  seqCmd : t.seqCmd = s.seqCmd
  port : t.port = s.port
  hostWaits : t.hostWaits = s.hostWaits
  initWord : t.initWord = s.initWord

theorem SameCommandState.rfl {s : State} : SameCommandState s s := by constructor <;> exact Eq.refl _

theorem SameCommandState.trans {s t u : State} (h : SameCommandState s t) (k : SameCommandState t u) :
    SameCommandState s u :=
  ⟨k.color.trans h.color, k.brightness.trans h.brightness, k.direction.trans h.direction, k.fault.trans h.fault,
    k.seqTrace.trans h.seqTrace, k.seqCmd.trans h.seqCmd, k.port.trans h.port, k.hostWaits.trans h.hostWaits,
    k.initWord.trans h.initWord⟩

/-- The strip's reaction to an event touches DISPLAY and the draw counter only (R182). -/
theorem disturbDisplay_eq (b : Bool) (s : State) :
    disturbDisplay b s =
      { s with display := (disturbDisplay b s).display, draws := (disturbDisplay b s).draws } := by
  cases b <;> exact Eq.refl _

/-- The strip's reaction to the end of a list touches DISPLAY and the draw counter only (R181, R182). -/
theorem latchDisplay_eq (s : State) :
    latchDisplay s = { s with display := (latchDisplay s).display, draws := (latchDisplay s).draws } := by
  unfold latchDisplay
  split
  · exact Eq.refl _
  · split <;> exact Eq.refl _

/-- The outcome of `emit` for an event answered `Ok`: every field written out, but DISPLAY and the draw counter at the end
of the list. Before the end both keep their values (R259). -/
theorem emit_ok_eq (ev : Event) (s : State) :
    ∃ disp dr, emit ev .ok s =
      (if s.seqPos + 1 = s.seqTrace.length then
        respond .ok { s with
          history := s.history ++ [(ev, .ok)], seqPos := s.seqPos + 1, display := disp, draws := dr
          clkAtShow := (markShowStart s).clkAtShow, dataOut := dataOutOk s.dataOut ev
          clkOut := clkOutOk s.clkOut ev, life := lifeAfterOk s.seqCmd }
      else { s with
          history := s.history ++ [(ev, .ok)], seqPos := s.seqPos + 1
          clkAtShow := (markShowStart s).clkAtShow, dataOut := dataOutOk s.dataOut ev
          clkOut := clkOutOk s.clkOut ev }) := by
  change ∃ disp dr, (if s.seqPos + 1 = s.seqTrace.length then finish _ else _) = _
  by_cases h : s.seqPos + 1 = s.seqTrace.length
  · rw [if_pos h, finish, latchDisplay_eq]
    exact ⟨_, _, (if_pos h).symm⟩
  · rw [if_neg h]
    exact ⟨s.display, s.draws, (if_neg h).symm⟩

/-- The outcome of `emit` for an event answered `Fail`: every field but DISPLAY and the draw counter written out. -/
theorem emit_fail_eq (ev : Event) (s : State) :
    ∃ disp dr, emit ev .fail s =
      respondFailure s.seqPos ev { s with
        history := s.history ++ [(ev, .fail)], display := disp, draws := dr
        clkAtShow := (markShowStart s).clkAtShow, dataOut := (applyFail ev s).dataOut
        clkOut := (applyFail ev s).clkOut, life := lifeAfterFail s.seqCmd } := by
  change ∃ disp dr, respondFailure s.seqPos ev { disturbDisplay _ _ with life := lifeAfterFail s.seqCmd } = _
  rw [disturbDisplay_eq]
  exact ⟨_, _, rfl⟩

/-- A sequencer step answers a next state exactly when SEQ_POS is a position of SEQ_TRACE: it emits that event, or waits
where no answer comes. -/
theorem seqStep_next {s t : State} (h : seqStep s = .next t) :
    ∃ ev, s.seqTrace[s.seqPos]? = some ev ∧
      ((∃ r, nextAnswer s = some r ∧ t = emit ev r (takeAnswer s)) ∨ (nextAnswer s = none ∧ t = awaitAnswer s)) := by
  unfold seqStep at h
  split at h
  next ev he =>
    refine ⟨ev, he, ?_⟩
    split at h
    next r hr => exact .inl ⟨r, hr, by cases h; rfl⟩
    next hr => exact .inr ⟨hr, by cases h; rfl⟩
  next => cases h

/-- A sequencer step whose event is answered emits it. -/
theorem seqStep_answered {s : State} {ev : Event} {r : Answer} (he : s.seqTrace[s.seqPos]? = some ev)
    (hr : nextAnswer s = some r) : seqStep s = .next (emit ev r (takeAnswer s)) := by
  simp only [seqStep, he, hr]

/-- A sequencer step that gets no answer waits (R178). -/
theorem seqStep_unanswered {s : State} {ev : Event} (he : s.seqTrace[s.seqPos]? = some ev)
    (hr : nextAnswer s = none) : seqStep s = .next (awaitAnswer s) := by
  simp only [seqStep, he, hr]

/-- A listed answer is the next one. -/
theorem nextAnswer_listed {s : State} {r : Answer} {more : List Answer} (h : s.answers = r :: more) :
    nextAnswer s = some r := by
  simp only [nextAnswer, h]

/-- A silent transport gives no answer once none is listed. -/
theorem nextAnswer_silent {s : State} (ha : s.answers = []) (hq : s.transportSilent = true) : nextAnswer s = none := by
  simp only [nextAnswer, ha, hq, if_true]

/-- A wait of a transport that is already silent changes nothing. -/
theorem awaitAnswer_silent {s : State} (hq : s.transportSilent = true) : awaitAnswer s = s := by
  rw [awaitAnswer, ← hq]

/-- What every sequencer step keeps (R31, R148). -/
theorem emit_same (ev : Event) (r : Answer) (s : State) : SameCommandState s (emit ev r s) := by
  cases r with
  | ok =>
    obtain ⟨_, _, h⟩ := emit_ok_eq ev s
    rw [h]
    split <;> constructor <;> exact Eq.refl _
  | fail =>
    obtain ⟨_, _, h⟩ := emit_fail_eq ev s
    rw [h]
    constructor <;> exact Eq.refl _

/-- What every sequencer step that answers a next state keeps. -/
theorem seqStep_same {s t : State} (h : seqStep s = .next t) : SameCommandState s t := by
  obtain ⟨ev, _, ⟨r, _, rfl⟩ | ⟨_, rfl⟩⟩ := seqStep_next h
  · refine SameCommandState.trans ?_ (emit_same ev r (takeAnswer s))
    constructor <;> exact Eq.refl _
  · constructor <;> exact Eq.refl _

/-- A sequencer step appends the event and its answer to the history (R176). -/
theorem emit_history (ev : Event) (r : Answer) (s : State) : (emit ev r s).history = s.history ++ [(ev, r)] := by
  cases r with
  | ok =>
    obtain ⟨_, _, h⟩ := emit_ok_eq ev s
    rw [h]
    split <;> exact Eq.refl _
  | fail =>
    obtain ⟨_, _, h⟩ := emit_fail_eq ev s
    rw [h]
    exact Eq.refl _

/-- A sequencer step leaves LIFE BUSY only after an `Ok` answer to an event that is not the last (R149). -/
theorem emit_busy {ev : Event} {r : Answer} {s : State} (h : (emit ev r s).life = .busy) :
    s.life = .busy ∧ r = .ok ∧ (emit ev r s).seqPos = s.seqPos + 1 ∧ s.seqPos + 1 ≠ s.seqTrace.length := by
  cases r with
  | ok =>
    obtain ⟨_, _, he⟩ := emit_ok_eq ev s
    rw [he] at h ⊢
    split at h
    · revert h
      cases hc : s.seqCmd <;> simp [lifeAfterOk]
    next hn => exact ⟨h, Eq.refl _, by rw [if_neg hn], hn⟩
  | fail =>
    obtain ⟨_, _, he⟩ := emit_fail_eq ev s
    rw [he] at h
    revert h
    cases hc : s.seqCmd <;> simp [lifeAfterFail]

end Sys2Proof.Machine
end

