-- ==== Sys2Proof/Laws/Step.lean ====
section
/-! SUPPORT. Everything a step can do, said once. -/

namespace Sys2Proof.Machine

/-- Every command, ILLEGAL too, is an effect behind the gate. -/
theorem execCommand_next {c : Command} {s t : State} (h : execCommand c s = .next t) :
    s.fault = none ∧
      ((∃ i, c = .instr i ∧ gate s.life (columnOf i) = none ∧ t = bodyOf i s) ∨
        (c = .illegal ∧ gate s.life .illegal = none ∧ t = respond .illegalCommand s) ∨
        ∃ r, t = raiseFault r s) := by
  cases c with
  | instr i =>
    obtain ⟨hf, ⟨hg, ht⟩ | ⟨r, _, ht⟩⟩ := exec_next h
    · exact ⟨hf, .inl ⟨i, rfl, hg, ht⟩⟩
    · exact ⟨hf, .inr (.inr ⟨r, ht⟩)⟩
  | illegal =>
    obtain ⟨hf, ⟨hg, ht⟩ | ⟨r, _, ht⟩⟩ := gated_next h
    · exact ⟨hf, .inr (.inl ⟨rfl, hg, ht⟩)⟩
    · exact ⟨hf, .inr (.inr ⟨r, ht⟩)⟩

/-- A command presented during BUSY sets FAULT to ConcurrentCommand (R214). -/
theorem execCommand_busy (c : Command) {s : State} (hf : s.fault = none) (hb : s.life = .busy) :
    execCommand c s = .next (raiseFault .concurrentCommand s) := by
  cases c with
  | instr i =>
    simp only [execCommand, exec_eq_gated]
    exact gated_misuse hf (by simp [hb])
  | illegal => exact gated_misuse hf (by simp [hb])

/-- A step that answers a next state does one of these: nothing; a sequencer step; a command outside BUSY; or, during
BUSY, a fault with or without a sequencer step before it (R214, R216). -/
theorem step_cases {s t : State} (h : step s = .next t) :
    s.fault = none ∧
      ((s.life ≠ .busy ∧ t = s) ∨
       (s.life = .busy ∧ seqStep s = .next t) ∨
       (s.life ≠ .busy ∧ ∃ c rest, presented s = some (c, rest) ∧ execCommand c { s with port := rest } = .next t) ∨
       (s.life = .busy ∧ s.hostWaits = false ∧ ∃ c rest u, presented s = some (c, rest) ∧ t = raiseFault .concurrentCommand u ∧
         (u = { s with port := rest, draws := s.draws + 1 } ∨
          seqStep { s with port := rest, draws := s.draws + 1 } = .next u))) := by
  unfold step nextMove at h
  split at h
  next r hm =>
    cases h
  next hm =>
    cases h
    split at hm
    · cases hm
    next hf =>
      refine ⟨hf, .inl ⟨?_, rfl⟩⟩
      intro hb
      rw [if_pos hb] at hm
      split at hm
      · cases hm
      · split at hm <;> cases hm
  next hm =>
    split at hm
    · cases hm
    next hf =>
      refine ⟨hf, .inr (.inl ⟨?_, h⟩)⟩
      by_contra hb
      rw [if_neg hb] at hm
      split at hm <;> cases hm
  next c u hm =>
    split at hm
    · cases hm
    next hf =>
      by_cases hb : s.life = .busy
      · rw [if_pos hb] at hm
        split at hm
        · cases hm
        · split at hm <;> cases hm
      · rw [if_neg hb] at hm
        split at hm
        next c' rest hp =>
          cases hm
          exact ⟨hf, .inr (.inr (.inl ⟨hb, c, rest, hp, h⟩))⟩
        next => cases hm
  next c first u hm =>
    split at hm
    · cases hm
    next hf =>
      by_cases hb : s.life = .busy
      · rw [if_pos hb] at hm
        split at hm
        · cases hm
        next hw =>
          split at hm
          next c' rest hp =>
            cases hm
            refine ⟨hf, .inr (.inr (.inr ⟨hb, by simpa using hw, c, rest, ?_⟩))⟩
            split at h
            · unfold raceAfterSequencer at h
              split at h
              next v hv => exact ⟨v, hp, by cases h; rfl, .inr hv⟩
              next => exact ⟨_, hp, by cases h; rfl, .inl rfl⟩
              next => exact ⟨_, hp, by cases h; rfl, .inl rfl⟩
            · rw [execCommand_busy c (s := { s with port := rest, draws := s.draws + 1 }) hf hb] at h
              exact ⟨_, hp, by cases h; rfl, .inl rfl⟩
          next => cases hm
      · rw [if_neg hb] at hm
        split at hm <;> cases hm

end Sys2Proof.Machine
end

