-- ==== Sys2Proof/Laws/Run.lean ====
section
/-! SUPPORT. Runs of the sequencer: what some number of `Ok` answers leaves, while the list is not at its end. Whole
runs are this lemma between the step that starts the list and the step that ends it. -/

namespace Sys2Proof.Machine

/-- In BUSY, with a host that waits, a step is the sequencer's (R5, R149). -/
theorem step_busy_waiting {s : State} (hf : s.fault = none) (hb : s.life = .busy) (hw : s.hostWaits = true) :
    step s = seqStep s := by
  simp [step, nextMove, hf, hb, hw]

/-- One more step of a run of any machine, at its start. -/
theorem coreRun_succ (M : Host.Core) {s t : M.State} {k : Nat} (h : M.step s = .next t) :
    M.run (k + 1) s = M.run k t := by
  rw [Host.Core.run, h]

/-- Runs of any machine in a row. -/
theorem coreRun_add (M : Host.Core) {s t : M.State} {j k : Nat} (h : M.run j s = .next t) :
    M.run (j + k) s = M.run k t := by
  induction j generalizing s with
  | zero =>
    cases h
    rw [Nat.zero_add]
  | succ j ih =>
    rw [Host.Core.run] at h
    rw [show j + 1 + k = (j + k) + 1 by omega]
    split at h
    next u hu => rw [coreRun_succ M hu]; exact ih h
    next => cases h
    next => cases h

/-- One more step of a run, at its start. -/
theorem run_succ {s t : State} {k : Nat} (h : step s = .next t) : core.run (k + 1) s = core.run k t :=
  coreRun_succ core h

/-- Runs in a row. -/
theorem run_add {s t : State} {j k : Nat} (h : core.run j s = .next t) : core.run (j + k) s = core.run k t :=
  coreRun_add core h

/-- The level that a list of events, each answered `Ok`, leaves on the data line (R174). -/
def dataOutAfter (old : Level) (es : List Event) : Level := es.foldl dataOutOk old

/-- The level that a list of events, each answered `Ok`, leaves on the clock line (R174). -/
def clkOutAfter (old : Level) (es : List Event) : Level := es.foldl clkOutOk old

/-- `k` steps of the sequencer, each answered `Ok`, that do not reach the end of the list (R149). -/
theorem run_ok {s : State} {k : Nat} {more : List Answer} (hf : s.fault = none) (hb : s.life = .busy)
    (hw : s.hostWaits = true) (hk : s.seqPos + k < s.seqTrace.length)
    (ha : s.answers = List.replicate k .ok ++ more) :
    ∃ t, core.run k s = .next t ∧ SameCommandState s t ∧ t.life = .busy ∧ t.seqPos = s.seqPos + k ∧
      t.answers = more ∧ t.resp = s.resp ∧ t.respWords = s.respWords ∧
      t.history = s.history ++ ((s.seqTrace.drop s.seqPos).take k).map (fun ev => (ev, Answer.ok)) ∧
      t.dataOut = dataOutAfter s.dataOut ((s.seqTrace.drop s.seqPos).take k) ∧
      t.clkOut = clkOutAfter s.clkOut ((s.seqTrace.drop s.seqPos).take k) ∧
      (∀ p, showStart s.seqCmd = some p → s.seqPos ≤ p → p < s.seqPos + k →
        t.clkAtShow = clkOutAfter s.clkOut ((s.seqTrace.drop s.seqPos).take (p - s.seqPos))) ∧
      ((∀ p, showStart s.seqCmd = some p → p < s.seqPos ∨ s.seqPos + k ≤ p) → t.clkAtShow = s.clkAtShow) ∧
      t.display = s.display := by
  induction k generalizing s with
  | zero =>
    refine ⟨s, rfl, SameCommandState.rfl, hb, rfl, by simpa using ha, rfl, rfl, by simp, by simp [dataOutAfter],
      by simp [clkOutAfter], ?_, fun _ => rfl, rfl⟩
    intro p _ h1 h2
    omega
  | succ k ih =>
    have hlt : s.seqPos < s.seqTrace.length := by omega
    have hev : s.seqTrace[s.seqPos]? = some s.seqTrace[s.seqPos] := List.getElem?_eq_getElem hlt
    have hr : nextAnswer s = some .ok := nextAnswer_listed (by rw [ha, List.replicate_succ, List.cons_append])
    have hstep : step s = .next (emit s.seqTrace[s.seqPos] .ok (takeAnswer s)) := by
      rw [step_busy_waiting hf hb hw, seqStep_answered hev hr]
    obtain ⟨_, _, he⟩ := emit_ok_eq s.seqTrace[s.seqPos] (takeAnswer s)
    have hn : ¬(takeAnswer s).seqPos + 1 = (takeAnswer s).seqTrace.length := by
      simp only [takeAnswer_seqPos, takeAnswer_seqTrace]
      omega
    rw [he, if_neg hn] at hstep
    have hdrop : s.seqTrace.drop s.seqPos = s.seqTrace[s.seqPos] :: s.seqTrace.drop (s.seqPos + 1) :=
      List.drop_eq_getElem_cons hlt
    obtain ⟨t, h1, h2, h3, h4, h5, h6, h7, h8, h9, h10, h11, h12, h13⟩ := ih (s := { takeAnswer s with
          history := s.history ++ [(s.seqTrace[s.seqPos], .ok)], seqPos := s.seqPos + 1
          clkAtShow := (markShowStart s).clkAtShow, dataOut := dataOutOk s.dataOut s.seqTrace[s.seqPos]
          clkOut := clkOutOk s.clkOut s.seqTrace[s.seqPos] }) hf hb hw
        (by simp only [takeAnswer_seqTrace]; omega)
        (by simp only [takeAnswer_answers, ha, List.replicate_succ, List.cons_append, List.tail_cons])
    simp only [takeAnswer_seqTrace, takeAnswer_seqCmd, markShowStart_clkAtShow] at h4 h8 h9 h10 h11 h12 h13
    refine ⟨t, ?_, ?_, h3, by omega, h5, h6, h7, ?_, ?_, ?_, ?_, ?_, ?_⟩
    · exact (run_succ hstep).trans h1
    · refine SameCommandState.trans ?_ h2
      constructor <;> exact Eq.refl _
    · rw [h8, hdrop, List.take_succ_cons]
      simp
    · rw [h9, hdrop, List.take_succ_cons]
      rfl
    · rw [h10, hdrop, List.take_succ_cons]
      rfl
    · intro p hp hle hlt'
      by_cases hpe : p = s.seqPos
      · subst hpe
        rw [h12 (by intro q hq; rw [hp] at hq; cases hq; omega)]
        simp [hp, clkOutAfter]
      · rw [h11 p hp (by omega) (by omega), hdrop, show p - s.seqPos = (p - (s.seqPos + 1)) + 1 by omega,
          List.take_succ_cons]
        rfl
    · intro hp
      rw [h12 (by intro q hq; have := hp q hq; omega), if_neg]
      intro hq
      have := hp _ hq
      omega
    · exact h13

/-- A silent transport holds the block in BUSY, whatever number of steps pass (R178, R262). -/
theorem run_silent {s : State} (k : Nat) (hf : s.fault = none) (hb : s.life = .busy) (hw : s.hostWaits = true)
    (hlt : s.seqPos < s.seqTrace.length) (ha : s.answers = []) (hq : s.transportSilent = true) :
    core.run k s = .next s := by
  induction k with
  | zero => rfl
  | succ k ih =>
    rw [run_succ (t := s), ih]
    rw [step_busy_waiting hf hb hw, seqStep_unanswered (List.getElem?_eq_getElem hlt) (nextAnswer_silent ha hq),
      awaitAnswer_silent hq]

end Sys2Proof.Machine
end

