-- ==== Sys2Proof/Laws/Trace.lean ====
section
/-! SUPPORT. Lengths and shapes of the event lists (41_protocol_encoder.md R141 to R146). -/

namespace Sys2Proof.Machine

/-- A byte is 24 events (R141). -/
@[simp] theorem writeByte_length (b : Byte) : (writeByte b).length = 24 := rfl

/-- The preamble is 96 events (R142). -/
@[simp] theorem preamble_length : preamble.length = 96 := rfl

/-- A frame is 96 events (R144). -/
@[simp] theorem frame_length (w : Word) : (frame w).length = 96 := rfl

/-- The latch is 73 events (R145). -/
@[simp] theorem latch_length : latch.length = 73 := rfl

/-- Byte 0 of a frame as the spec writes it, `0xE0 | BR` (R52, R144). -/
theorem frameByte0_eq (br : BitVec 5) : frameByte0 br = 0xE0 ||| br.zeroExtend 8 := by
  revert br; decide

/-- Byte 0 of a frame bit by bit (R144). -/
theorem getLsbD_frameByte0 (br : BitVec 5) (i : Nat) :
    (frameByte0 br).getLsbD i = if i < 5 then br.getLsbD i else decide (i < 8) := by
  rw [frameByte0_eq]
  by_cases h : i < 8
  · have : i = 0 ∨ i = 1 ∨ i = 2 ∨ i = 3 ∨ i = 4 ∨ i = 5 ∨ i = 6 ∨ i = 7 := by omega
    rcases this with rfl | rfl | rfl | rfl | rfl | rfl | rfl | rfl <;> simp
  · rw [if_neg (by omega), BitVec.getLsbD_of_ge _ _ (by omega)]
    simp [h]

/-- A frame's 32-bit value bit by bit: red, green, blue, and byte 0 from bit 0 up (R83). -/
theorem getLsbD_frameValue (w : Word) (i : Nat) :
    (frameValue w).getLsbD i =
      if i < 8 then (redOf w).getLsbD i
      else if i < 16 then (greenOf w).getLsbD (i - 8)
      else if i < 24 then (blueOf w).getLsbD (i - 16)
      else (frameByte0 (brOf w)).getLsbD (i - 24) := by
  have h : (frameValue w).getLsbD i =
      (frameByte0 (brOf w) ++ blueOf w ++ greenOf w ++ redOf w : BitVec (8 + 8 + 8 + 8)).getLsbD i := rfl
  rw [h]
  simp only [BitVec.getLsbD_append]
  by_cases h1 : i < 8
  · simp [h1]
  · by_cases h2 : i < 16
    · simp [h1, h2, show i - 8 < 8 by omega]
    · by_cases h3 : i < 24
      · simp [h1, h2, h3, show ¬i - 8 < 8 by omega, show i - 16 < 8 by omega, show i - 8 - 8 = i - 16 by omega]
      · simp [h1, h2, h3, show ¬i - 8 < 8 by omega, show ¬i - 8 - 8 < 8 by omega,
          show i - 8 - 8 - 8 = i - 24 by omega]

/-- The COLOR words in wire order, one by one (R143). -/
theorem wireWords_eq (color : Vector Word Config.pN) (d : Direction) :
    wireWords color d = [color[src 0 d], color[src 1 d], color[src 2 d], color[src 3 d], color[src 4 d],
      color[src 5 d], color[src 6 d], color[src 7 d]] := rfl

/-- A show's trace, frame by frame (R146). -/
theorem showTrace_eq (color : Vector Word Config.pN) (d : Direction) :
    showTrace color d = preamble ++ (frame color[src 0 d] ++ (frame color[src 1 d] ++ (frame color[src 2 d] ++
      (frame color[src 3 d] ++ (frame color[src 4 d] ++ (frame color[src 5 d] ++ (frame color[src 6 d] ++
      (frame color[src 7 d] ++ latch)))))))) := by
  simp only [showTrace, wireWords_eq, List.flatMap_cons, List.flatMap_nil, List.append_nil, List.append_assoc]

/-- A show is 937 events (R146). -/
@[simp] theorem showTrace_length (color : Vector Word Config.pN) (d : Direction) :
    (showTrace color d).length = 937 := by
  simp only [showTrace_eq, List.length_append, preamble_length, frame_length, latch_length]

/-- The length of each command's list (R31). -/
theorem eventList_length (c : SeqCmd) (color : Vector Word Config.pN) (d : Direction) :
    (eventList c color d).length = match c with
      | .showCmd => 937
      | .write => 937
      | .init => 939
      | .release => 2 := by
  cases c <;> simp [eventList]

/-- No list is empty. -/
theorem eventList_ne_nil (c : SeqCmd) (color : Vector Word Config.pN) (d : Direction) :
    0 < (eventList c color d).length := by
  rw [eventList_length]
  cases c <;> simp

end Sys2Proof.Machine
end

