-- ==== Sys2Proof/Tests/Slice0.lean ====
section
/-! SUPPORT. Small tests and the witnesses of the statements' hypotheses. Expected values come from 95_test_vectors.md,
from the worked lines of spec/ that each docstring names, or from counting by hand; none was pasted from the model. -/

open Sys2Proof Sys2Proof.Machine Sys2Proof.Statements

namespace Sys2Proof.Tests

/-! ### States the tests start from -/

/-- READY(init) of 95_test_vectors.md: after a successful INIT (10_state.md R38). -/
def ready : State :=
  { State.reset with
    life := .ready
    color := Vector.replicate 8 0x0F000000
    brightness := 15
    dataOut := .low
    clkOut := .low
    display := Vector.replicate 8 (.lit ⟨15, 0, 0, 0⟩) }

/-- RELEASED, as a release leaves it. -/
def released : State := { ready with life := .released, dataOut := .x, clkOut := .x }

/-- BUSY with a SHOW of the READY(init) buffer, nothing emitted yet. -/
def busy : State := { ready with life := .busy, seqTrace := showTrace ready.color .normal, seqCmd := .showCmd }

/-- BUSY with a RELEASE, nothing emitted yet. -/
def closing : State := { ready with life := .busy, seqTrace := [.close .data, .close .clk], seqCmd := .release }

/-- BUSY with a RELEASE whose first Close has been answered `Ok`. -/
def closingLast : State := { closing with seqPos := 1, dataOut := .x, history := [(.close .data, .ok)] }

/-- BUSY with an INIT, nothing emitted yet. -/
def constructing : State :=
  { ready with
    life := .busy
    seqTrace := [.configure .data, .configure .clk] ++ showTrace ready.color .normal
    seqCmd := .init }

/-- READY(init) with words on the port and answers of the transport fixed. -/
def readyWith (port : List Word) (answers : List Answer) : State := { ready with port := port, answers := answers }

/-- The state an outcome holds, none for a fault or a refusal. -/
def after (o : Host.Outcome State Fault Refusal) : Option State :=
  match o with
  | .next t => some t
  | .fault _ => none
  | .refused _ => none

/-- What a test looks at after a command that touches no line: the response words and FAULT. -/
def answer (o : Host.Outcome State Fault Refusal) : Option (List Word × Option FaultReason) :=
  (after o).map fun t => (t.respWords, t.fault)

/-! ### Well-formedness -/

/-- R71: a WRITE of 2^28 elements has no encoding; one of none has. No other command can be ill-formed. -/
theorem test_wf_write : (Instr.write (List.replicate (2 ^ 28) 0)).wf = false ∧ (Instr.write []).wf = true := by
  have long : ∀ n, 2 ^ 28 ≤ n → (Instr.write (List.replicate n 0)).wf = false := by
    intro n h
    rw [Instr.wf, List.length_replicate]
    exact decide_eq_false (Nat.not_lt.mpr h)
  exact ⟨long _ (Nat.le_refl _), rfl⟩

/-! ### Decoding: words written out from the table of R73 and V-DEC -/

theorem test_decode_setBrightness :
    decode [0b00010000000000000000000000000000, 31, 7] = .instr (.setBrightness 31) [7] := by decide

theorem test_decode_getBrightness :
    decode [0b00100000000000000000000000000000] = .instr .getBrightness [] := by decide

theorem test_decode_setDirection :
    decode [0b00110000000000000000000000000000, 1] = .instr (.setDirection .reversed) [] := by decide

theorem test_decode_getDirection :
    decode [0b01000000000000000000000000000000] = .instr .getDirection [] := by decide

theorem test_decode_setColor :
    decode [0b01010000000000000000000000000000, 7, 255] = .instr (.setColor 7 255) [] := by decide

theorem test_decode_setColorB :
    decode [0b01100000000000000000000000000000, 3, 0x112233, 31] = .instr (.setColorB 3 0x112233 31) [] := by decide

theorem test_decode_write :
    decode [0b01110000000000000000000000000011, 1, 2, 3, 4] = .instr (.write [1, 2, 3]) [4] := by decide

theorem test_decode_write_empty : decode [0x70000000] = .instr (.write []) [] := by decide

theorem test_decode_show : decode [0b10000000000000000000000000000000] = .instr .showCmd [] := by decide

theorem test_decode_release : decode [0b10010000000000000000000000000000] = .instr .release [] := by decide

theorem test_decode_init : decode [0b10100000000000000000000000000000] = .instr .init [] := by decide

/-- V-DEC: reserved opcodes, reserved bits, and a direction that is neither 0 nor 1. -/
theorem test_decode_illegal :
    decode [0x00000000] = .illegal .reservedOpcode [] ∧
    decode [0xF0000000] = .illegal .reservedOpcode [] ∧
    decode [0x80000001] = .illegal .reservedBits [] ∧
    decode [0xA8000000] = .illegal .reservedBits [] ∧
    decode [0x30000000, 0xFFFFFFFF] = .illegal .badDirection [] := by decide

/-- A command whose argument words are not all there is none yet (log entry 4). -/
theorem test_decode_incomplete : decode [0x60000000, 3, 1] = .incomplete ∧ decode [] = .incomplete := by decide

/-- R70 to R73: the encodings of R87's example and of a WRITE. -/
theorem test_encode :
    encode (.setColorB 3 0x112233 31) = [0x60000000, 0x00000003, 0x00112233, 0x0000001F] ∧
    encode (.write [0xFF0000, 0x00FF00, 0xFF0000FF]) = [0x70000003, 0x00FF0000, 0x0000FF00, 0xFF0000FF] := by decide

/-- The opcode table's ten words, each with zero argument words (opcode_table.json). -/
theorem test_table_words :
    [0x10000000, 0x20000000, 0x30000000, 0x40000000, 0x50000000, 0x60000000, 0x70000000, 0x80000000, 0x90000000,
      0xA0000000].map (decodeTableWord 32) =
    [some (.setBrightness 0), some .getBrightness, some (.setDirection .normal), some .getDirection,
      some (.setColor 0 0), some (.setColorB 0 0 0), some (.write []), some .showCmd, some .release,
      some .init] := by decide

/-- V-GATE: SHOW as the first command after power-on sets UseBeforeInit and gives no response. -/
theorem test_first_step_show :
    answer (step (State.reset.withFetchWord 32 0x80000000)) = some ([], some .useBeforeInit) := by decide

/-- INIT as the first command after power-on starts its list. -/
theorem test_first_step_init :
    (after (step (State.reset.withFetchWord 32 0xA0000000))).map (fun t => (t.life, t.seqTrace.length, t.fault)) =
      some (.busy, 939, none) := by decide +kernel

/-- R87's own example. -/
theorem test_assemble :
    assemble "SET_COLOR_B 3, 0x112233, 31" = some [0x60000000, 0x00000003, 0x00112233, 0x0000001F] := by
  decide +kernel

/-! ### Packing, argument reading, frames: V-PACK, V-S32, V-FRAME, V-WB -/

theorem test_pack :
    pack 15 0xFFFFFFFF = 0x0FFFFFFF ∧ pack 0 0x12345678 = 0x00345678 ∧ pack 31 0xFF112233 = 0x1F112233 := by decide

/-- V-S32: 31 is in range; 32, -1, -2^31, 2^31 - 1 and 287 are not. -/
theorem test_brightnessArg :
    [0x1F, 0x20, 0xFFFFFFFF, 0x80000000, 0x7FFFFFFF, 0x11F].map brightnessArg =
      [some 31, none, none, none, none, none] := by decide

theorem test_frameBytes :
    frameBytes 0x1F112233 = [0xFF, 0x33, 0x22, 0x11] ∧ frameBytes 0x01ABCDEF = [0xE1, 0xEF, 0xCD, 0xAB] ∧
      frameValue 0x0FFF8000 = 0xEF0080FF := by decide

theorem test_writeByte : (writeByte 0xA5).filterMap (fun ev => match ev with
    | .setData v => some v
    | .setClock _ => none
    | .configure _ => none
    | .close _ => none) = [true, false, true, false, false, true, false, true] := by decide

/-- V-T3, reversed: the frame at wire position 0 is COLOR[7]'s. -/
theorem test_showBytes_reversed :
    (showBytes (Vector.ofFn fun i => pack 15 (BitVec.ofNat 32 (0x010203 * (i.val + 1)))) .reversed).take 12 =
      [0x00, 0x00, 0x00, 0x00, 0xEF, 0x18, 0x10, 0x08, 0xEF, 0x15, 0x0E, 0x07] := by decide +kernel

/-- V-T2: events 96, 105, 117, 120 and 864 of a Normal show. -/
theorem test_showTrace_positions :
    [96, 105, 117, 120, 141, 864, 865].map
      (fun k => (showTrace (Vector.ofFn fun i => pack 15 (BitVec.ofNat 32 (0x010203 * (i.val + 1)))) .normal)[k]?) =
    [some (.setData true), some (.setData false), some (.setData true), some (.setData false), some (.setData true),
      some (.setData false), some (.setClock true)] := by decide +kernel

/-! ### One command each: V-BR, V-DIR, V-COL, V-WR, V-GATE -/

theorem test_setBrightness :
    (after (exec (.setBrightness 31) ready)).map (fun t => (t.brightness, t.respWords)) = some (31, [0]) := by decide

theorem test_setBrightness_rejected :
    (after (exec (.setBrightness 0xFFFFFFFF) ready)).map (fun t => (t.brightness, t.respWords)) =
      some (15, [1]) := by decide

theorem test_getBrightness :
    (after (exec .getBrightness { ready with brightness := 31 })).map (fun t => t.respWords) = some [0, 31] := by decide

theorem test_setDirection :
    (after (exec (.setDirection .reversed) ready)).map (fun t => (t.direction, t.respWords)) =
      some (.reversed, [0]) := by decide

theorem test_getDirection :
    (after (exec .getDirection { ready with direction := .reversed })).map (fun t => t.respWords) =
      some [0, 1] := by decide

theorem test_setColor :
    (after (exec (.setColor 2 0x00FF8000) ready)).map (fun t => (t.color[2], t.color[1], t.respWords)) =
      some (0x0FFF8000, 0x0F000000, [0]) := by decide

/-- Index 8 is out of range. -/
theorem test_setColor_rejected :
    (after (exec (.setColor 8 0xFF) ready)).map (fun t => (t.color, t.respWords)) = some (ready.color, [1]) := by decide

theorem test_setColorB :
    (after (exec (.setColorB 4 0xFF112233 1) ready)).map (fun t => (t.color[4], t.brightness, t.respWords)) =
      some (0x01112233, 15, [0]) := by decide

/-- Both arguments bad: one status (R217). -/
theorem test_setColorB_rejected :
    (after (exec (.setColorB 0xFFFFFFFB 1 0x63) ready)).map (fun t => (t.color, t.respWords)) =
      some (ready.color, [1]) := by decide

/-- W2: the words are written, with no response yet. -/
theorem test_write :
    (after (exec (.write [0x00FF0000, 0x0000FF00, 0xFF0000FF]) { ready with brightness := 7 })).map
      (fun t => (t.color[0], t.color[2], t.color[3], t.life, t.respWords)) =
    some (0x07FF0000, 0x070000FF, 0x0F000000, .busy, []) := by decide +kernel

/-- W4: a ninth element is ignored. -/
theorem test_write_long :
    (after (exec (.write [0x111111, 0x222222, 0x333333, 0x444444, 0x555555, 0x666666, 0x777777, 0x888888, 0x999999])
      { ready with brightness := 7 })).map (fun t => (t.color[0], t.color[7])) =
    some (0x07111111, 0x07888888) := by decide +kernel

theorem test_show :
    (after (exec .showCmd ready)).map (fun t => (t.life, t.seqCmd, t.seqPos, t.seqTrace.length, t.history.length)) =
      some (.busy, .showCmd, 0, 937, 0) := by decide +kernel

/-- With the default of P_INIT_WORD, and with its other reading (the head of 95_test_vectors.md). -/
theorem test_init :
    (after (exec .init released)).map (fun t => (t.color[7], t.brightness, t.direction, t.life)) =
      some (0x0F000000, 15, .normal, .busy) ∧
    (after (exec .init { released with initWord := 0 })).map (fun t => (t.color[7], t.brightness, t.life)) =
      some (0, 15, .busy) := by decide +kernel

/-- INIT in READY is SecondInstance, with no response. -/
theorem test_init_in_ready : answer (exec .init ready) = some ([], some .secondInstance) := by decide

theorem test_release :
    (after (exec .release ready)).map (fun t => (t.life, t.seqTrace)) =
      some (.busy, [.close .data, .close .clk]) := by decide

theorem test_release_twice : answer (exec .release released) = some ([], some .doubleRelease) := by decide

theorem test_illegal : answer (execIllegal ready) = some ([3], none) := by decide

/-! ### The sequencer: V-REL, V-FAIL -/

/-- V-REL, Ok-run: the last Close ends the list. -/
theorem test_release_end :
    (after (step { closingLast with answers := [.ok] })).map
      (fun t => (t.life, t.dataOut, t.clkOut, t.respWords, t.history.length)) =
    some (.released, .x, .x, [0], 2) := by decide

/-- V-REL, fail at 1. -/
theorem test_release_fail :
    (after (step { closingLast with answers := [.fail] })).map (fun t => (t.life, t.clkOut, t.respWords, t.resp.failEv)) =
      some (.released, .x, [0x00010002], some (.close .clk)) := by decide

/-- V-FAIL, k = 1: a clock event fails. -/
theorem test_show_fail :
    (after (step { busy with seqPos := 1, answers := [.fail] })).map
      (fun t => (t.life, t.dataOut, t.clkOut, t.respWords)) =
    some (.ready, .low, .x, [0x00010002]) := by decide +kernel

/-- The last latch event of a SHOW that began at the idle level shows the frames (R181). -/
theorem test_show_end :
    (after (step { busy with seqPos := 936, clkOut := .high, clkAtShow := .low, answers := [.ok] })).map
      (fun t => (t.life, t.clkOut, t.respWords, t.display[7])) =
    some (.ready, .low, [0], .lit ⟨15, 0, 0, 0⟩) := by decide +kernel

/-- R259: an event inside a show leaves what the strip displays as it was. -/
theorem test_show_in_flight :
    (after (step { busy with seqPos := 500, answers := [.ok] })).map (fun t => (t.life, t.display)) =
      some (.busy, ready.display) := by decide +kernel

/-- R178, R262: a silent transport leaves the block waiting in BUSY with nothing emitted. -/
theorem test_silent :
    (after (step { closing with transportSilent := true })).map (fun t => (t.life, t.seqPos, t.history.length)) =
      some (.busy, 0, 0) := by decide

/-! ### Witnesses: for each statement with hypotheses, data that meet all of them -/

theorem witness_idleBlockChangesNothing :
    State.reset.fault = none ∧ State.reset.life ≠ .busy ∧ decode State.reset.port = .incomplete := by decide

/-- One state for each clause: a command, and an illegal word. -/
theorem witness_stepRunsPresentedCommand :
    let s := readyWith [0x20000000, 5] []
    let t := readyWith [0xB0000000] []
    (s.fault = none ∧ s.life ≠ .busy ∧ decode s.port = .instr .getBrightness [5]) ∧
      (t.fault = none ∧ t.life ≠ .busy ∧ decode t.port = .illegal .reservedOpcode []) := by decide

/-- One state for each way: a host that waits, and a host that does not but has presented no whole command. -/
theorem witness_busyStepIsSequencerStep :
    (closing.fault = none ∧ closing.life = .busy ∧ closing.hostWaits = true) ∧
      (let s := { closing with hostWaits := false, port := [0x10000000] }
       s.fault = none ∧ s.life = .busy ∧ s.hostWaits = false ∧ decode s.port = .incomplete) := by decide

/-- V-GATE: GET_BRIGHTNESS presented during BUSY; and a bad direction. -/
theorem witness_commandDuringBusyFaults :
    (let s := { closing with hostWaits := false, port := [0x20000000, 5] }
     s.fault = none ∧ s.life = .busy ∧ s.hostWaits = false ∧ decode s.port = .instr .getBrightness [5]) ∧
    (let s := { closing with hostWaits := false, port := [0x30000000, 2, 5] }
     s.fault = none ∧ s.life = .busy ∧ s.hostWaits = false ∧ decode s.port = .illegal .badDirection [5]) := by decide

/-- One state for each row of R214's table. -/
theorem witness_misuseSetsFault :
    (State.reset.fault = none ∧ State.reset.life = .uninit ∧ Instr.showCmd ≠ .init) ∧
    (ready.fault = none ∧ ready.life = .ready ∧ Instr.init = .init) ∧
    (closing.fault = none ∧ closing.life = .busy) ∧
    (released.fault = none ∧ released.life = .released ∧ Instr.release = .release) ∧
    (released.fault = none ∧ released.life = .released ∧ Instr.showCmd ≠ .release ∧ Instr.showCmd ≠ .init) := by
  decide

/-- READY(init) is READY: the only hypothesis on the state of IllegalCommandIsAnswered, SetBrightnessResult,
GetBrightnessResult, SetDirectionResult, GetDirectionResult, SetColorResult, SetColorBResult, WriteResult, ShowResult,
ReleaseResult, WriteIsSetColorsThenShow and ColorRoundTrip. -/
theorem witness_ready : Ready ready := by decide

/-- The values where the clauses of SetBrightnessResult, SetColorResult and SetColorBResult meet: 0 and 31 accepted, 32
and -1 not; index 0 and 7 accepted, 8 and -1 not; and SetDirectionResult's 1 and 2. -/
theorem witness_ranges :
    [0, 31, 32, 0xFFFFFFFF].map (fun w : Word => decide (0 ≤ w.toInt ∧ w.toInt ≤ 31)) = [true, true, false, false] ∧
    [0, 7, 8, 0xFFFFFFFF].map (fun w : Word => decide (0 ≤ w.toInt ∧ w.toInt < 8)) = [true, true, false, false] ∧
    [1, 2].map (fun w : Word => decide (1 < w.toNat)) = [false, true] := by
  decide

theorem witness_faultIsSticky : { ready with fault := some .doubleRelease }.fault = some .doubleRelease := rfl

/-- One state for each way: BUSY with a host that waits, and no whole command on the port; both steps have a next
state. -/
theorem witness_faultNeedsPresentedCommand :
    (let s := { closing with answers := [.ok] }
     s.fault = none ∧ (after (step s)).isSome ∧ s.life = .busy ∧ s.hostWaits = true) ∧
      (ready.fault = none ∧ (after (step ready)).isSome ∧ decode ready.port = .incomplete) := by decide

/-- INIT is admitted after power-on and after RELEASE. -/
theorem witness_initResult :
    (State.reset.fault = none ∧ State.reset.life = .uninit) ∧ (released.fault = none ∧ released.life = .released) := by
  decide

theorem witness_decodeEncode : (Instr.write [1, 2, 3]).wf = true := by decide

theorem witness_encodeDecode : decode [0x50000000, 7, 255, 9] = .instr (.setColor 7 255) [9] := by decide

/-- One word for each of the three reasons, at the ends of their ranges. -/
theorem witness_illegalEncodings :
    decode [0xB0000000, 9] = .illegal .reservedOpcode [9] ∧ decode [0x10000001, 9] = .illegal .reservedBits [9] ∧
      decode [0x30000000, 2, 9] = .illegal .badDirection [9] := by decide

theorem witness_assembledLinesDecode : assemble "WRITE []" = some [0x70000000] := by decide +kernel

theorem witness_statusWordLayout :
    (failureResp 938 (.setClock false)).failPos ≤ 938 ∧ okResp.failPos ≤ 938 := by decide

theorem witness_traceDependsOnBufferAndDirection :
    let t := { ready with brightness := 3, clkOut := .x }
    Ready ready ∧ Ready t ∧ ready.color = t.color ∧ ready.direction = t.direction ∧ ready ≠ t := by decide

theorem witness_pulsesAreClosed :
    (eventList .init ready.color .normal)[3]? = some (.setClock true) := by decide +kernel

/-- An event that is not the last of its list, and one that is. -/
theorem witness_okAnswerStep :
    (let s := { closing with answers := [.ok] }
     s.seqTrace[s.seqPos]? = some (.close .data) ∧ nextAnswer s = some .ok ∧ s.seqPos + 1 ≠ s.seqTrace.length) ∧
    (let s := { closingLast with answers := [.ok] }
     s.seqTrace[s.seqPos]? = some (.close .clk) ∧ nextAnswer s = some .ok ∧ s.seqPos + 1 = s.seqTrace.length) := by decide

theorem witness_failAnswerStep :
    let s := { closing with answers := [.fail, .ok] }
    s.seqTrace[s.seqPos]? = some (.close .data) ∧ nextAnswer s = some .fail := by decide

/-- One state for each clause: an answer fixed, none fixed, and a silent transport. -/
theorem witness_oracleAnswersFreely :
    (let s := { closing with answers := [.fail, .ok] }
     s.seqTrace[s.seqPos]? = some (.close .data) ∧ s.answers = .fail :: [.ok]) ∧
    (closing.seqTrace[closing.seqPos]? = some (.close .data) ∧ closing.answers = [] ∧
      closing.transportSilent = false) ∧
    (let s := { closing with transportSilent := true }
     s.seqTrace[s.seqPos]? = some (.close .data) ∧ s.answers = [] ∧ s.transportSilent = true ∧ s.fault = none ∧
       s.life = .busy ∧ s.hostWaits = true) := by decide

/-- The hypotheses of DisplayAfterSequencerStep, one state for each clause: the last event of a show that began at the
idle level and of one that did not, a failed event of a show, the first event of a show, and an event of RELEASE; and at
INIT's boundary, position 1 (a failed Configure, no show) and position 2 (the show's first event, failed). -/
theorem witness_displayAfterSequencerStep :
    (let s := { busy with seqPos := 936, clkOut := .high, clkAtShow := .low, answers := [.ok] }
     (s.life = .busy ∧ SequencerOk s) ∧ (after (seqStep s)).map (fun t => t.clkAtShow) = some .low) ∧
    (let s := { busy with seqPos := 936, clkOut := .high, clkAtShow := .x, answers := [.ok] }
     (s.life = .busy ∧ SequencerOk s) ∧ (after (seqStep s)).map (fun t => t.clkAtShow) = some .x) ∧
    (let s := { busy with seqPos := 5, answers := [.fail] }
     (s.life = .busy ∧ SequencerOk s) ∧ (after (seqStep s)).isSome) ∧
    (let s := { busy with answers := [.ok] }
     (s.life = .busy ∧ SequencerOk s) ∧ (after (seqStep s)).isSome ∧ s.seqPos = 0) ∧
    (let s := { closing with answers := [.ok] }
     (s.life = .busy ∧ SequencerOk s) ∧ (after (seqStep s)).isSome ∧ s.seqCmd = .release) ∧
    (let s := { constructing with seqPos := 1, answers := [.fail] }
     (s.life = .busy ∧ SequencerOk s) ∧ (after (seqStep s)).map (fun t => t.display) = some s.display) ∧
    (let s := { constructing with seqPos := 2, answers := [.fail] }
     (s.life = .busy ∧ SequencerOk s) ∧ (after (seqStep s)).map (fun t => t.clkAtShow) = some s.clkOut) := by
  decide +kernel

theorem witness_busyKeepsRegisters :
    let s := { closing with answers := [.ok] }
    s.life = .busy ∧ (after (step s)).isSome := by decide

theorem witness_historyOnlyGrows :
    (after (step { closing with answers := [.ok] })).isSome ∧ (after (step ready)).isSome := by decide

/-- A step outside BUSY, and a step that stays in BUSY. -/
theorem witness_displayKeptBetweenShows :
    (let s := readyWith [0x10000000, 3] []
     s.life ≠ .busy ∧ (after (step s)).isSome) ∧
    (let s := { busy with answers := [.ok] }
     (after (step s)).map (fun t => t.life) = some .busy) := by decide +kernel

/-- Both clauses: RELEASE from READY, and INIT from UNINIT. -/
theorem witness_lifeLeavesOnlyByItsCommands :
    (let s := readyWith [0x90000000] []
     s.life ≠ .busy ∧ (after (step s)).map (fun t => decide (t.life ≠ s.life)) = some true ∧ s.life = .ready) ∧
    (let s := State.reset.withFetchWord 32 0xA0000000
     s.life ≠ .busy ∧ (after (step s)).map (fun t => decide (t.life ≠ s.life)) = some true ∧ s.life = .uninit) := by
  decide +kernel

/-- The hypotheses of ShowRunsToCompletion; the clock line is low, so its last clause applies. -/
theorem witness_showRunsToCompletion :
    let s := readyWith [0x80000000, 5] (List.replicate 937 .ok ++ [.fail])
    Ready s ∧ s.hostWaits = true ∧ s.port = 0x80000000 :: [5] ∧ s.answers = List.replicate 937 .ok ++ [.fail] ∧
      s.clkOut = .low := ⟨⟨rfl, rfl⟩, rfl, rfl, rfl, rfl⟩

/-- The hypotheses of ShowAbortsAtFailure at the first event and at the last. -/
theorem witness_showAbortsAtFailure :
    (let s := readyWith [0x80000000] [.fail]
     Ready s ∧ s.hostWaits = true ∧ s.port = 0x80000000 :: [] ∧
       (showTrace s.color s.direction)[0]? = some (.setData false) ∧ s.answers = List.replicate 0 .ok ++ .fail :: []) ∧
    (let s := readyWith [0x80000000] (List.replicate 936 .ok ++ [.fail])
     Ready s ∧ s.hostWaits = true ∧ s.port = 0x80000000 :: [] ∧
       (showTrace s.color s.direction)[936]? = some (.setClock false) ∧
       s.answers = List.replicate 936 .ok ++ .fail :: []) := by decide +kernel

/-- The hypotheses of FailedWriteKeepsBuffer, at the last event. -/
theorem witness_failedWriteKeepsBuffer :
    let s := readyWith [0x70000001, 7, 5] (List.replicate 936 .ok ++ [.fail])
    Ready s ∧ s.hostWaits = true ∧ [(7 : Word)].length < 2 ^ 28 ∧ s.port = encode (.write [7]) ++ [5] ∧ 936 < 937 ∧
      s.answers = List.replicate 936 .ok ++ .fail :: [] := by decide +kernel

theorem witness_writeRunsToCompletion :
    let s := readyWith [0x70000001, 7, 5] (List.replicate 937 .ok)
    Ready s ∧ s.hostWaits = true ∧ [(7 : Word)].length < 2 ^ 28 ∧ s.port = encode (.write [7]) ++ [5] ∧
      s.answers = List.replicate 937 .ok ++ [] ∧ s.clkOut = .low := by decide +kernel

/-- From power-on and after RELEASE, with each reading of P_INIT_WORD. -/
theorem witness_initRunsToReady :
    (let s : State := { State.reset with port := [0xA0000000], answers := List.replicate 939 .ok }
     s.fault = none ∧ s.life = .uninit ∧ s.hostWaits = true ∧ s.port = 0xA0000000 :: [] ∧
       s.answers = List.replicate 939 .ok ++ []) ∧
    (let s := { released with port := [0xA0000000], answers := List.replicate 939 .ok }
     s.fault = none ∧ s.life = .released ∧ s.hostWaits = true ∧ s.port = 0xA0000000 :: [] ∧
       s.answers = List.replicate 939 .ok ++ [] ∧ s.initWord = 0x0F000000) ∧
    (let s := { released with port := [0xA0000000], answers := List.replicate 939 .ok, initWord := 0 }
     s.fault = none ∧ s.life = .released ∧ s.hostWaits = true ∧ s.port = 0xA0000000 :: [] ∧
       s.answers = List.replicate 939 .ok ++ [] ∧ s.initWord = 0x00000000) := by decide +kernel

/-- At a Configure event (k = 1), and at the last event (k = 938). -/
theorem witness_initAbortsAtFailure :
    (let s : State := { State.reset with port := [0xA0000000], answers := [.ok, .fail] }
     s.fault = none ∧ s.life = .uninit ∧ s.hostWaits = true ∧ s.port = 0xA0000000 :: [] ∧ 1 < 939 ∧
       s.answers = List.replicate 1 .ok ++ .fail :: []) ∧
    (let s : State := { State.reset with port := [0xA0000000], answers := List.replicate 938 .ok ++ [.fail] }
     s.fault = none ∧ s.life = .uninit ∧ s.hostWaits = true ∧ s.port = 0xA0000000 :: [] ∧ 938 < 939 ∧
       s.answers = List.replicate 938 .ok ++ .fail :: []) := by decide +kernel

/-- One state for each clause of ReleaseRuns. -/
theorem witness_releaseRuns :
    [[Answer.ok, .ok], [.fail], [.ok, .fail]].all (fun a =>
      let s := readyWith [0x90000000] a
      decide (Ready s ∧ s.hostWaits = true ∧ s.port = 0x90000000 :: [] ∧ s.answers = a ++ [])) = true := by decide

/-- The clock line unknown: the case R261 is about. -/
theorem witness_twoShowsRepairDisplay :
    let s := { readyWith [0x80000000, 0x80000000] (List.replicate 1874 .ok) with clkOut := .x }
    Ready s ∧ s.hostWaits = true ∧ s.port = 0x80000000 :: 0x80000000 :: [] ∧
      s.answers = List.replicate 1874 .ok ++ [] ∧ s.clkOut = .x := by decide +kernel

theorem witness_stepKeepsColorFields :
    let s := readyWith [0x50000000, 7, 0xFFFFFFFF] []
    ColorOk s ∧ (after (step s)).isSome := by decide

/-- BUSY states with events behind them: the invariants are not met only for want of a list. -/
theorem witness_stepKeepsSequencer :
    let s := { closingLast with answers := [.ok] }
    s.life = .busy ∧ SequencerOk s ∧ (after (step s)).isSome := by decide

theorem witness_stepKeepsResponse :
    let s := { closingLast with answers := [.fail] }
    SequencerOk s ∧ ResponseOk s ∧ (after (step s)).isSome := by decide

theorem witness_stepKeepsHistory :
    let s := { closingLast with answers := [.ok] }
    s.life = .busy ∧ HistoryOk s ∧ (after (step s)).isSome :=
  ⟨rfl, fun _ => ⟨[], rfl⟩, rfl⟩

theorem witness_stepKeepsClockInPulses :
    let s := { busy with seqPos := 2, clkOut := .high, answers := [.ok] }
    SequencerOk s ∧ ClockOk s ∧ (after (step s)).isSome := by decide +kernel

end Sys2Proof.Tests
end

section
/-! PROOFS. The scope's statements about INIT (00_scope.md R12, 42_lifecycle.md R190 to R194). The facts a whole run needs
come first: the step that takes a command, a list whose every event is answered `Ok`, the lines after a show. -/

namespace Sys2Proof.Machine

/-! ### The step that takes a command -/

/-- Outside BUSY a step runs the command that stands on the port, on the state its words have left (R61, R75). -/
theorem step_presented {s : State} {i : Instr} {rest : List Word} (hf : s.fault = none) (hb : s.life ≠ .busy)
    (hd : decode s.port = .instr i rest) : step s = exec i { s with port := rest } := by
  simp [step, nextMove, hf, hb, presented, hd, execCommand]

/-- The gate admits INIT after power-on and after a RELEASE (R214). -/
theorem gate_init_eq_none {l : Life} (h : l = .uninit ∨ l = .released) : gate l .init = none := by
  obtain rfl | rfl := h <;> rfl

/-- An admitted INIT starts its list on the default state (R190 to R193). -/
theorem exec_init {s : State} (hf : s.fault = none) (hl : s.life = .uninit ∨ s.life = .released) :
    exec .init s = .next (startList .init (setDefaults s)) := by
  rw [exec_eq_gated]
  exact gated_admitted hf (gate_init_eq_none hl)

/-- INIT's word on the port, with whatever follows it (R73). -/
theorem decode_init (rest : List Word) : decode (0xA0000000 :: rest) = .instr .init rest :=
  decode_whole (args := []) (.inr ⟨by decide, by decide⟩) (by decide)

/-- The step that takes an INIT which the gate admits (R61, R190). -/
theorem step_init {s : State} {rest : List Word} (hf : s.fault = none) (hl : s.life = .uninit ∨ s.life = .released)
    (hp : s.port = 0xA0000000 :: rest) :
    step s = .next (startList .init (setDefaults { s with port := rest })) := by
  have hb : s.life ≠ .busy := by
    obtain h | h := hl <;> simp [h]
  rw [step_presented hf hb (hp ▸ decode_init rest)]
  exact exec_init (s := { s with port := rest }) hf hl

/-! ### A list whose every event is answered `Ok` -/

/-- What the strip displays after a show of this buffer that began with CLK_OUT = 0 (R181). -/
def shownFrames (color : Vector Word Config.pN) (d : Direction) : Vector Shown Config.pN :=
  Vector.ofFn fun p => shownOf color[src p d]

/-- The LED at a wire position shows its own frame (R181). -/
theorem shownFrames_get (color : Vector Word Config.pN) (d : Direction) (p : Fin Config.pN) :
    (shownFrames color d)[p] = shownOf color[src p d] := by
  simp [shownFrames]

/-- The end of a show that began with CLK_OUT = 0: every LED takes its frame (R181). -/
theorem latchDisplay_display_of_low {s : State} {p : Nat} (hshow : showStart s.seqCmd = some p)
    (hclk : s.clkAtShow = .low) :
    (latchDisplay s).display = shownFrames s.color s.direction := by
  simp only [latchDisplay, hshow, hclk, if_true, shownFrames]

/-- The last event of a show that began with CLK_OUT = 0 lights every LED with its frame (R181). -/
theorem emit_ok_last_display {ev : Event} {s : State} {p : Nat} (hlast : s.seqPos + 1 = s.seqTrace.length)
    (hshow : showStart s.seqCmd = some p) (hclk : (markShowStart s).clkAtShow = .low) :
    (emit ev .ok s).display = shownFrames s.color s.direction := by
  have hemit : emit ev .ok s = finish (applyOk ev { record ev .ok (markShowStart s) with seqPos := s.seqPos + 1 }) :=
    if_pos hlast
  rw [hemit]
  exact latchDisplay_display_of_low hshow hclk

/-- The step whose event is the last of its list and is answered `Ok` (R149, R150, R194, R196). -/
theorem step_last_ok {s : State} {ev : Event} {more : List Answer} (hf : s.fault = none) (hb : s.life = .busy)
    (hw : s.hostWaits = true) (hev : s.seqTrace[s.seqPos]? = some ev) (hlast : s.seqPos + 1 = s.seqTrace.length)
    (ha : s.answers = .ok :: more) :
    ∃ t : State, step s = .next t ∧ SameCommandState s t ∧ t.life = lifeAfterOk s.seqCmd ∧ t.answers = more ∧
      t.resp = ⟨.ok, 0, 0, none⟩ ∧ t.respWords = [0] ∧ t.history = s.history ++ [(ev, .ok)] ∧
      t.dataOut = dataOutOk s.dataOut ev ∧ t.clkOut = clkOutOk s.clkOut ev ∧
      (∀ p, showStart s.seqCmd = some p → (markShowStart s).clkAtShow = .low →
        t.display = shownFrames s.color s.direction) := by
  have hstep : step s = .next (emit ev .ok (takeAnswer s)) := by
    rw [step_busy_waiting hf hb hw, seqStep_answered hev (nextAnswer_listed ha)]
  have htake : SameCommandState s (takeAnswer s) := by constructor <;> rfl
  obtain ⟨_, _, hemit⟩ := emit_ok_eq ev (takeAnswer s)
  rw [if_pos (by simpa using hlast)] at hemit
  refine ⟨_, hstep, htake.trans (emit_same ev .ok _), ?_, ?_, ?_, ?_, emit_history ev .ok _, ?_, ?_, ?display⟩
  case display => exact fun p hshow hclk => emit_ok_last_display hlast hshow hclk
  all_goals simp [hemit, ha]

/-- Events in a row on the data line (R174). -/
theorem dataOutAfter_append (old : Level) (es fs : List Event) :
    dataOutAfter old (es ++ fs) = dataOutAfter (dataOutAfter old es) fs := List.foldl_append

/-- Events in a row on the clock line (R174). -/
theorem clkOutAfter_append (old : Level) (es fs : List Event) :
    clkOutAfter old (es ++ fs) = clkOutAfter (clkOutAfter old es) fs := List.foldl_append

/-- What the list running in `s` has done in `t`, after every event of it was answered `Ok` (R149, R150, R181, R194). -/
structure ListAnswered (s t : State) : Prop where
  same : SameCommandState s t
  life : t.life = lifeAfterOk s.seqCmd
  resp : t.resp = ⟨.ok, 0, 0, none⟩
  respWords : t.respWords = [0]
  history : t.history = s.history ++ s.seqTrace.map fun ev => (ev, Answer.ok)
  dataOut : t.dataOut = dataOutAfter s.dataOut s.seqTrace
  clkOut : t.clkOut = clkOutAfter s.clkOut s.seqTrace
  display : ∀ p, showStart s.seqCmd = some p → p + 1 < s.seqTrace.length →
    clkOutAfter s.clkOut (s.seqTrace.take p) = .low →
    t.display = shownFrames s.color s.direction

/-- A run of a whole list, each event answered `Ok`: `run_ok` up to the last event, then the step that ends the list
(R149, R150). -/
theorem run_list_ok {s : State} {more : List Answer} (hf : s.fault = none) (hb : s.life = .busy)
    (hw : s.hostWaits = true) (hpos : s.seqPos = 0) (hne : s.seqTrace ≠ [])
    (ha : s.answers = List.replicate s.seqTrace.length .ok ++ more) :
    ∃ t : State, core.run s.seqTrace.length s = .next t ∧ ListAnswered s t ∧ t.answers = more := by
  obtain ⟨es, ev, htrace⟩ : ∃ es ev, s.seqTrace = es ++ [ev] := ⟨_, _, (List.dropLast_concat_getLast hne).symm⟩
  have hlen : s.seqTrace.length = es.length + 1 := by simp [htrace]
  rw [hlen, List.replicate_succ', List.append_assoc] at ha
  obtain ⟨(u : State), hrun, hsame, hbusy, hupos, hans, -, -, hhist, hdata, hclk, hmark, -, -⟩ :=
    run_ok hf hb hw (by omega) ha
  simp only [hpos, Nat.zero_add, List.drop_zero, htrace, List.take_left] at hupos hhist hdata hclk
  have hev : u.seqTrace[u.seqPos]? = some ev := by simp [hsame.seqTrace, hupos, htrace]
  have hlast : u.seqPos + 1 = u.seqTrace.length := by rw [hupos, hsame.seqTrace, hlen]
  obtain ⟨t, hstep, hsame', hlife, hmore, hresp, hwords, hhist', hdata', hclk', hdisp⟩ :=
    step_last_ok (hsame.fault.trans hf) hbusy (hsame.hostWaits.trans hw) hev hlast hans
  refine ⟨t, by rw [hlen, run_add hrun, run_succ hstep]; rfl, ?_, hmore⟩
  constructor
  case same => exact hsame.trans hsame'
  case life => rw [hlife, hsame.seqCmd]
  case resp => exact hresp
  case respWords => exact hwords
  case history => simp [hhist', hhist, htrace]
  case dataOut =>
    rw [hdata', hdata, htrace, dataOutAfter_append]
    rfl
  case clkOut =>
    rw [hclk', hclk, htrace, clkOutAfter_append]
    rfl
  case display =>
    intro p hshow hp hlow
    have hshow' : showStart u.seqCmd = some p := hsame.seqCmd ▸ hshow
    have hkept : (markShowStart u).clkAtShow = u.clkAtShow := by
      rw [markShowStart_clkAtShow, hshow', hupos, if_neg]
      simp only [Option.some.injEq]
      omega
    have hmarked : u.clkAtShow = .low := by
      rw [hmark p hshow (by omega) (by omega), ← hlow, hpos]
      rfl
    rw [hdisp p hshow' (hkept.trans hmarked), hsame.color, hsame.direction]

/-! ### The lines after a show -/

/-- A show leaves the data line low: its latch begins with `SetData(0)` and drives only the clock after it (R145, R152). -/
@[simp] theorem dataOutAfter_showTrace (old : Level) (color : Vector Word Config.pN) (d : Direction) :
    dataOutAfter old (showTrace color d) = .low := by
  rw [showTrace, dataOutAfter_append]
  rfl

/-- A show leaves the clock line low: its latch ends with `SetClock(0)` (R145, R152). -/
@[simp] theorem clkOutAfter_showTrace (old : Level) (color : Vector Word Config.pN) (d : Direction) :
    clkOutAfter old (showTrace color d) = .low := by
  rw [showTrace, clkOutAfter_append]
  rfl

/-- INIT's list leaves the data line low, as the show it ends with does (R193). -/
@[simp] theorem dataOutAfter_eventList_init (old : Level) (color : Vector Word Config.pN) (d : Direction) :
    dataOutAfter old (eventList .init color d) = .low := by
  rw [eventList, dataOutAfter_append, dataOutAfter_showTrace]

/-- INIT's list leaves the clock line low, as the show it ends with does (R193). -/
@[simp] theorem clkOutAfter_eventList_init (old : Level) (color : Vector Word Config.pN) (d : Direction) :
    clkOutAfter old (eventList .init color d) = .low := by
  rw [eventList, clkOutAfter_append, clkOutAfter_showTrace]

end Sys2Proof.Machine

namespace Sys2Proof.Proofs

open Sys2Proof.Machine

/-- Settles O19: the gate admits INIT, and the default state with its list started is the state named. -/
theorem initResult : Obligations.InitResult :=
  ⟨rfl, fun _ hf hl => exec_init hf hl⟩

/-- Settles O52: one step starts the list (`step_init`), 939 answers finish it (`run_list_ok`). The show finds the clock
line low, where Configure(CLK) set it (R193), so the strip shows the frames of P_INIT_WORD. -/
theorem initRunsToReady : Obligations.InitRunsToReady := by
  intro s rest more hf hl hw hport hans
  have hstep := step_init hf hl hport
  set u := startList .init (setDefaults { s with port := rest }) with hu
  have hlen : u.seqTrace.length = 939 := eventList_length .init _ _
  obtain ⟨t, hrun, hdone, -⟩ :=
    run_list_ok (s := u) (more := more) hf rfl hw rfl (List.ne_nil_of_length_pos (by omega)) (by rw [hlen]; exact hans)
  have hdata : t.dataOut = .low := by simp only [hdone.dataOut, hu, startList_seqTrace, dataOutAfter_eventList_init]
  have hclk : t.clkOut = .low := by simp only [hdone.clkOut, hu, startList_seqTrace, clkOutAfter_eventList_init]
  have hconfigured : clkOutAfter u.clkOut (u.seqTrace.take 2) = .low := rfl
  have hshown : ∀ p : Fin 8, t.display[p] = shownOf s.initWord := by
    intro p
    rw [hdone.display 2 rfl (by omega) hconfigured, shownFrames_get]
    simp [hu]
  refine ⟨t, ?_, ⟨hdone.same.fault.trans hf, hdone.life⟩, ?_, hdone.same.brightness, hdone.same.direction, hdone.resp,
    hdone.respWords, hdata, hclk, hdone.history, hdone.same.port, hdone.same.initWord, hshown, ?_, ?_⟩
  · rw [run_succ hstep, ← hlen, hrun]
  · intro i
    simp [hdone.same.color, hu]
  · intro hword p
    rw [hshown, hword]
    rfl
  · intro hword p
    rw [hshown, hword]
    rfl

end Sys2Proof.Proofs
end

section
/-! PROOFS. The invariants of the state that every step keeps (10_state.md R12, R22, R28, R30, R31), and the state after
power-on (R37). What a predicate on states has to survive to be kept by a step is said once, in `KeptByMoves`; each
invariant then meets it. -/

namespace Sys2Proof.Machine

/-! ### What a command writes before it answers or starts its list -/

/-- What an admitted command may have written before it answers or starts its list: BRIGHTNESS, DIRECTION and the COLOR
words, each of these kept, packed (R100) or P_INIT_WORD (R192). LIFE, RESP, the history, the lines and P_INIT_WORD keep
their values. -/
structure CommandWrites (s u : State) : Prop where
  life : u.life = s.life
  resp : u.resp = s.resp
  history : u.history = s.history
  dataOut : u.dataOut = s.dataOut
  clkOut : u.clkOut = s.clkOut
  initWord : u.initWord = s.initWord
  color : ∀ i : Fin Config.pN,
    u.color[i] = s.color[i] ∨ (∃ br c, u.color[i] = pack br c) ∨ u.color[i] = s.initWord

/-- Writes that leave the buffer as it is, BRIGHTNESS or DIRECTION or none at all. -/
theorem CommandWrites.of_buffer_kept {s : State} (br : BitVec 5) (d : Direction) :
    CommandWrites s { s with brightness := br, direction := d } := by
  constructor
  case color => exact fun _ => .inl rfl
  all_goals rfl

/-- A command that writes nothing. -/
theorem CommandWrites.refl (s : State) : CommandWrites s s := .of_buffer_kept s.brightness s.direction

/-- The write of one packed word (R105, R106). -/
theorem commandWrites_writeColor (j : Fin Config.pN) (br : BitVec 5) (c : Word) (s : State) :
    CommandWrites s (writeColor j (pack br c) s) := by
  constructor
  case color =>
    intro i
    by_cases hij : j.val = i.val
    · exact .inr (.inl ⟨br, c, by simp [hij]⟩)
    · exact .inl (by simp [hij])
  all_goals rfl

/-- WRITE's buffer writes (R107). -/
theorem commandWrites_writeColors (es : List Word) (s : State) : CommandWrites s (writeColors es s) := by
  constructor
  case color =>
    intro i
    rw [writeColors_color_get]
    split
    · exact .inr (.inl ⟨_, _, rfl⟩)
    · exact .inl rfl
  all_goals rfl

/-- INIT's default state (R192). -/
theorem commandWrites_setDefaults (s : State) : CommandWrites s (setDefaults s) := by
  constructor
  case color => exact fun _ => .inr (.inr (by simp))
  all_goals rfl

/-- A response that reports no transport failure and carries none of its fields (R28). -/
def NoFailure (r : Resp) : Prop := r.status ≠ .transportFailure ∧ r.failPos = 0 ∧ r.failEv = none

/-- An admitted command writes, and then it answers at once or starts a list. -/
theorem bodyOf_writes (i : Instr) (s : State) :
    ∃ u, CommandWrites s u ∧
      ((∃ g r, bodyOf i s = answerHost g r u ∧ NoFailure r) ∨ ∃ c, bodyOf i s = startList c u) := by
  obtain ⟨g, r, u, hbody, hpos, hev, hst, hu⟩ | ⟨c, u, hbody, hu⟩ := bodyOf_cases i s
  · refine ⟨u, ?_, .inl ⟨g, r, hbody, hst, hpos, hev⟩⟩
    obtain rfl | ⟨br, rfl⟩ | ⟨d, rfl⟩ | ⟨j, br, e, rfl⟩ := hu
    · exact .refl u
    · exact .of_buffer_kept br s.direction
    · exact .of_buffer_kept s.brightness d
    · exact commandWrites_writeColor j br e s
  · refine ⟨u, ?_, .inr ⟨c, hbody⟩⟩
    obtain rfl | ⟨-, es, rfl⟩ | ⟨-, rfl⟩ := hu
    · exact .refl u
    · exact commandWrites_writeColors es s
    · exact commandWrites_setDefaults s

/-! ### What a predicate has to survive to be kept by every step -/

/-- `P` is kept by each part of a step: the words taken off the port and the draw of an order, a fault, a sequencer step,
a command's answer outside BUSY, and the start of a list outside BUSY. -/
structure KeptByMoves (P : State → Prop) : Prop where
  port : ∀ {s : State} (rest : List Word) (n : Nat), P s → P { s with port := rest, draws := n }
  fault : ∀ {s : State} (r : FaultReason), P s → P (raiseFault r s)
  seq : ∀ {s t : State}, s.life = .busy → P s → seqStep s = .next t → P t
  answer : ∀ {s u : State} (g : Bool) {r : Resp}, s.life ≠ .busy → P s → CommandWrites s u → NoFailure r →
    P (answerHost g r u)
  start : ∀ {s u : State} (c : SeqCmd), s.life ≠ .busy → P s → CommandWrites s u → P (startList c u)

section
variable {P : State → Prop}

/-- A command outside BUSY keeps what every move keeps. -/
theorem KeptByMoves.execCommand_keeps (hP : KeptByMoves P) {c : Command} {s t : State} (hb : s.life ≠ .busy)
    (hs : P s) (h : execCommand c s = .next t) : P t := by
  obtain ⟨-, ⟨i, -, -, rfl⟩ | ⟨-, -, rfl⟩ | ⟨r, rfl⟩⟩ := execCommand_next h
  · obtain ⟨u, hu, ⟨g, r, hbody, hr⟩ | ⟨c, hbody⟩⟩ := bodyOf_writes i s
    · rw [hbody]
      exact hP.answer g hb hs hu hr
    · rw [hbody]
      exact hP.start c hb hs hu
  · exact hP.answer false hb hs (.refl s) ⟨by simp, rfl, rfl⟩
  · exact hP.fault r hs

/-- A step keeps what every move keeps. -/
theorem KeptByMoves.step_keeps (hP : KeptByMoves P) {s t : State} (hs : P s) (h : step s = .next t) : P t := by
  obtain ⟨-, ⟨-, rfl⟩ | ⟨hb, hseq⟩ | ⟨hb, c, rest, -, hexec⟩ | ⟨hb, -, c, rest, u, -, rfl, hu⟩⟩ := step_cases h
  · exact hs
  · exact hP.seq hb hs hseq
  · exact hP.execCommand_keeps (s := { s with port := rest }) hb (hP.port rest s.draws hs) hexec
  · have hraced := hP.port rest (s.draws + 1) hs
    obtain rfl | hseq := hu
    · exact hP.fault _ hraced
    · exact hP.fault _ (hP.seq (s := { s with port := rest, draws := s.draws + 1 }) hb hraced hseq)

end

/-! ### P_INIT_WORD and the COLOR words -/

/-- Every move leaves P_INIT_WORD as it is (log entry 26). -/
theorem keptByMoves_initWord (w : Word) : KeptByMoves fun s => s.initWord = w where
  port _ _ h := h
  fault _ h := h
  seq _ h hseq := (seqStep_same hseq).initWord.trans h
  answer _ _ _ h hu _ := hu.initWord.trans h
  start _ _ h hu := hu.initWord.trans h

/-- What a command writes has bits 31:29 zero (R22, R100, R192). -/
theorem CommandWrites.colorOk {s u : State} (h : CommandWrites s u) (hs : ColorOk s) : ColorOk u := by
  obtain ⟨hinit, hcolor⟩ := hs
  refine ⟨by rw [h.initWord, hinit], fun i => ?_⟩
  obtain hkept | ⟨br, c, hpacked⟩ | hdefault := h.color i
  · rw [hkept, hcolor]
  · rw [hpacked, topOf_pack]
  · rw [hdefault, hinit]

/-- Every move keeps bits 31:29 of the COLOR words zero: the sequencer writes no COLOR word (R22, R148). -/
theorem keptByMoves_colorOk : KeptByMoves ColorOk where
  port _ _ h := h
  fault _ h := h
  seq := by
    intro s t _ hs hseq
    have hsame := seqStep_same hseq
    obtain ⟨hinit, hcolor⟩ := hs
    exact ⟨hsame.initWord ▸ hinit, hsame.color ▸ hcolor⟩
  answer _ _ _ h hu _ := hu.colorOk h
  start _ _ h hu := hu.colorOk h

/-! ### The running list -/

/-- A sequencer step that leaves the block BUSY leaves SEQ_POS a position of the same list: an event that is not the last
moves it on by one, a wait leaves it (R149). -/
theorem seqStep_seqPos_lt {s t : State} (h : seqStep s = .next t) (hb : t.life = .busy) :
    t.seqPos < s.seqTrace.length := by
  obtain ⟨ev, hev, hcase⟩ := seqStep_next h
  obtain ⟨hlt, -⟩ := List.getElem?_eq_some_iff.mp hev
  obtain ⟨r, -, rfl⟩ | ⟨-, rfl⟩ := hcase
  · obtain ⟨-, -, hpos, hne⟩ := emit_busy hb
    simp only [takeAnswer_seqPos, takeAnswer_seqTrace] at hpos hne
    omega
  · exact hlt

/-- Every move keeps the running list and its position (R30, R31). -/
theorem keptByMoves_sequencerOk : KeptByMoves SequencerOk where
  port _ _ h := h
  fault _ h := h
  seq := by
    intro s t hb hs hseq ht
    have hsame := seqStep_same hseq
    obtain ⟨htrace, -⟩ := hs hb
    rw [hsame.seqTrace, hsame.seqCmd, hsame.color, hsame.direction]
    exact ⟨htrace, seqStep_seqPos_lt hseq ht⟩
  answer _ _ hb _ hu _ := fun hbusy => absurd (hu.life.symm.trans hbusy) hb
  start c _ _ _ := fun _ => ⟨rfl, eventList_ne_nil c _ _⟩

/-! ### The response -/

/-- No list is longer than INIT's (R31). -/
theorem eventList_length_le (c : SeqCmd) (color : Vector Word Config.pN) (d : Direction) :
    (eventList c color d).length ≤ 939 := by
  rw [eventList_length]
  cases c <;> simp

/-- A state whose response reports no failure meets the invariant (R28). -/
theorem responseOk_of_noFailure {s : State} (h : NoFailure s.resp) : ResponseOk s := by
  obtain ⟨hst, hpos, hev⟩ := h
  exact (if_neg hst).mpr ⟨hpos, hev⟩

/-- The invariant speaks of RESP alone (R28). -/
theorem responseOk_of_resp_eq {s t : State} (h : t.resp = s.resp) (hs : ResponseOk s) : ResponseOk t := by
  unfold ResponseOk
  rwa [h]

/-- Emitting an event at a position up to 938 keeps the response in its form: a failure is recorded at that position, the
end of the list answers OK, and before the end RESP stays (R150, R151, R212). -/
theorem emit_responseOk {ev : Event} {r : Answer} {s : State} (hpos : s.seqPos ≤ 938) (hs : ResponseOk s) :
    ResponseOk (emit ev r s) := by
  cases r with
  | ok =>
    obtain ⟨_, _, hemit⟩ := emit_ok_eq ev s
    rw [hemit]
    split
    · exact responseOk_of_noFailure ⟨by simp, rfl, rfl⟩
    · exact hs
  | fail =>
    obtain ⟨_, _, hemit⟩ := emit_fail_eq ev s
    rw [hemit]
    exact (if_pos rfl).mpr ⟨hpos, by simp⟩

/-- A sequencer step keeps the response in its form, since SEQ_POS is a position of a list of at most 939 events
(R28, R149). -/
theorem seqStep_responseOk {s t : State} (hb : s.life = .busy) (hseqOk : SequencerOk s) (hs : ResponseOk s)
    (h : seqStep s = .next t) : ResponseOk t := by
  obtain ⟨htrace, hlt⟩ := hseqOk hb
  have hle := eventList_length_le s.seqCmd s.color s.direction
  rw [htrace] at hlt
  obtain ⟨ev, -, ⟨r, -, rfl⟩ | ⟨-, rfl⟩⟩ := seqStep_next h
  · exact emit_responseOk (s := takeAnswer s) (by simp only [takeAnswer_seqPos]; omega) hs
  · exact hs

/-- Every move keeps the response in its form, next to the invariant of the sequencer that bounds FAIL_POS (R28). -/
theorem keptByMoves_responseOk : KeptByMoves fun s => SequencerOk s ∧ ResponseOk s where
  port _ _ h := h
  fault _ h := h
  seq := fun hb ⟨hseqOk, hrespOk⟩ h =>
    ⟨keptByMoves_sequencerOk.seq hb hseqOk h, seqStep_responseOk hb hseqOk hrespOk h⟩
  answer := fun g _ hb ⟨hseqOk, _⟩ hu hr =>
    ⟨keptByMoves_sequencerOk.answer g hb hseqOk hu hr, responseOk_of_noFailure hr⟩
  start := fun c hb ⟨hseqOk, hrespOk⟩ hu =>
    ⟨keptByMoves_sequencerOk.start c hb hseqOk hu, responseOk_of_resp_eq hu.resp hrespOk⟩

end Sys2Proof.Machine

namespace Sys2Proof.Proofs

open Sys2Proof.Machine

/-- Settles O56: no move writes P_INIT_WORD, and every COLOR word a command writes is packed or P_INIT_WORD. -/
theorem stepKeepsColorFields : Obligations.StepKeepsColorFields := fun s _ h =>
  ⟨(keptByMoves_initWord s.initWord).step_keeps rfl h, fun hs => keptByMoves_colorOk.step_keeps hs h⟩

/-- Settles O57: a list starts at position 0 of the list of its command, and the sequencer leaves BUSY at the end of it. -/
theorem stepKeepsSequencer : Obligations.StepKeepsSequencer := fun _ _ hs h =>
  keptByMoves_sequencerOk.step_keeps hs h

/-- Settles O58: FAIL_POS is the SEQ_POS of the failed event, a position of a list of at most 939 events. -/
theorem stepKeepsResponse : Obligations.StepKeepsResponse := fun _ _ hseq hs h =>
  (keptByMoves_responseOk.step_keeps ⟨hseq, hs⟩ h).2

/-- Settles O2: P_INIT_WORD's default and the zero COLOR words have bits 31:29 zero, RESP is OK, the block is not BUSY
and the clock line is unknown. -/
theorem powerOnMeetsInvariants : Obligations.PowerOnMeetsInvariants := by
  refine ⟨⟨?init, ?color⟩, ?sequencer, ?response, ?history, ?clock, rfl⟩
  case init => decide
  case color => decide
  case sequencer => exact fun hbusy => nomatch hbusy
  case response => exact responseOk_of_noFailure ⟨by decide, rfl, rfl⟩
  case history => exact fun hbusy => nomatch hbusy
  case clock => exact fun hhigh => nomatch hhigh

end Sys2Proof.Proofs
end

section
/-! PROOFS. The memory chapter's statements (20_memory.md R50 to R63): the bytes and the value of an LED frame, the
command a step takes from the port, and the order in which a running list's events go out. -/

namespace Sys2Proof.Machine

/-! ### The history of a running list -/

/-- Emitting the event at SEQ_POS keeps the history in step with SEQ_POS: the block stays BUSY only after an `Ok`, and then
SEQ_POS counts the entry that the history has just got (R63, R149). -/
theorem emit_historyOk {ev : Event} {s : State} (r : Answer) (hev : s.seqTrace[s.seqPos]? = some ev)
    (hs : HistoryOk s) : HistoryOk (emit ev r s) := by
  intro hb
  obtain ⟨hbusy, rfl, hpos, -⟩ := emit_busy hb
  obtain ⟨before, hhist⟩ := hs hbusy
  refine ⟨before, ?_⟩
  rw [emit_history, (emit_same ev .ok s).seqTrace, hpos, hhist, List.take_add_one, hev]
  simp

/-- A sequencer step keeps the history in step with SEQ_POS: it emits the event at SEQ_POS, or waits (R149, R178). -/
theorem seqStep_historyOk {s t : State} (hs : HistoryOk s) (h : seqStep s = .next t) : HistoryOk t := by
  obtain ⟨ev, hev, ⟨r, -, rfl⟩ | ⟨-, rfl⟩⟩ := seqStep_next h
  · exact emit_historyOk (s := takeAnswer s) r hev hs
  · exact hs

/-- Every move keeps the history in step with SEQ_POS: a list starts at position 0, with none of its events sent
(R63, R149). -/
theorem keptByMoves_historyOk : KeptByMoves HistoryOk where
  port _ _ h := h
  fault _ h := h
  seq _ h hseq := seqStep_historyOk h hseq
  answer _ _ hb _ hu _ := fun hbusy => absurd (hu.life.symm.trans hbusy) hb
  start _ _ _ _ := fun _ => ⟨_, (List.append_nil _).symm⟩

/-! ### A command that decodes to ILLEGAL -/

/-- Outside BUSY a step that finds ILLEGAL on the port runs it on the state its words have left (R61, R76). -/
theorem step_presented_illegal {s : State} {why : Illegal} {rest : List Word} (hf : s.fault = none)
    (hb : s.life ≠ .busy) (hd : decode s.port = .illegal why rest) :
    step s = execIllegal { s with port := rest } := by
  simp [step, nextMove, hf, hb, presented, hd, execCommand]

/-! ### The fields of a COLOR word as the spec's shifts and masks -/

/-- A field of at most 32 bits, read out into a word, is that word shifted down and masked. -/
theorem setWidth_extractLsb'_eq_and (w : Word) (start : Nat) {len : Nat} (hlen : len ≤ 32) :
    (w.extractLsb' start len).setWidth 32 = (w >>> start) &&& BitVec.ofNat 32 (2 ^ len - 1) := by
  have hpow : 2 ^ len ≤ 2 ^ 32 := Nat.pow_le_pow_right (by decide) hlen
  have hpos : 0 < 2 ^ len := Nat.two_pow_pos len
  apply BitVec.eq_of_toNat_eq
  rw [BitVec.toNat_setWidth, BitVec.extractLsb'_toNat, BitVec.toNat_and, BitVec.toNat_ushiftRight, BitVec.toNat_ofNat,
    Nat.mod_eq_of_lt (show 2 ^ len - 1 < 2 ^ 32 by omega), Nat.and_two_pow_sub_one_eq_mod]
  exact Nat.mod_eq_of_lt ((Nat.mod_lt _ hpos).trans_le hpow)

/-- BR as R83 writes it: bits 28:24 (R21). -/
theorem brOf_zeroExtend (w : Word) : (brOf w).zeroExtend 32 = (w >>> 24) &&& 0x1F :=
  setWidth_extractLsb'_eq_and w 24 (by decide)

/-- RED as R83 writes it: bits 23:16 (R21). -/
theorem redOf_zeroExtend (w : Word) : (redOf w).zeroExtend 32 = (w >>> 16) &&& 0xFF :=
  setWidth_extractLsb'_eq_and w 16 (by decide)

/-- GREEN as R83 writes it: bits 15:8 (R21). -/
theorem greenOf_zeroExtend (w : Word) : (greenOf w).zeroExtend 32 = (w >>> 8) &&& 0xFF :=
  setWidth_extractLsb'_eq_and w 8 (by decide)

/-- BLUE as R83 writes it: bits 7:0 (R21). -/
theorem blueOf_zeroExtend (w : Word) : (blueOf w).zeroExtend 32 = w &&& 0xFF :=
  setWidth_extractLsb'_eq_and w 0 (by decide)

/-! ### The bytes and the value of a frame -/

/-- Byte 0 of a frame in terms of its COLOR word (R144). -/
theorem frameByte0_brOf (w : Word) : frameByte0 (brOf w) = 0xE0 ||| ((w >>> 24) &&& 0x1F).truncate 8 := by
  rw [frameByte0_eq, ← brOf_zeroExtend, BitVec.truncate_eq_setWidth]
  simp

/-- Byte 0 of a frame in the top byte of the frame's value: the marker bits and BR (R83). -/
theorem frameByte0_shifted (br : BitVec 5) :
    (frameByte0 br).zeroExtend 32 <<< 24 = 0xE0000000 ||| (br.zeroExtend 32 <<< 24) := by
  revert br; decide

/-- A byte appended at the low end of a word moves what stands above it up by eight bits. -/
theorem zeroExtend_append_byte {n : Nat} (x : BitVec n) (b : Byte) :
    (x ++ b).zeroExtend 32 = (x.zeroExtend 32 <<< 8) ||| b.zeroExtend 32 := by
  ext i hi
  by_cases hlow : i < 8
  · simp [BitVec.getLsbD_append, hlow]
  · have hb : b.getLsbD i = false := BitVec.getLsbD_of_ge b i (by omega)
    simp [BitVec.getLsbD_append, hlow, hb]

/-- Four bytes in a row as a word: each byte shifted to its place. -/
theorem append_bytes_eq_or (a b c d : Byte) :
    (a ++ b ++ c ++ d : Word) =
      (a.zeroExtend 32 <<< 24) ||| (b.zeroExtend 32 <<< 16) ||| (c.zeroExtend 32 <<< 8) ||| d.zeroExtend 32 := by
  have hword : (a ++ b ++ c ++ d : Word) = (a ++ b ++ c ++ d).zeroExtend 32 := (BitVec.setWidth_eq _).symm
  rw [hword, zeroExtend_append_byte, zeroExtend_append_byte, zeroExtend_append_byte]
  simp only [BitVec.shiftLeft_or_distrib, ← BitVec.shiftLeft_add]

end Sys2Proof.Machine

namespace Sys2Proof.Proofs

open Sys2Proof.Machine

/-- Settles O59: a list starts with nothing sent, and each `Ok` that leaves it running adds the event at SEQ_POS to the
history and one to SEQ_POS. -/
theorem stepKeepsHistory : Obligations.StepKeepsHistory := fun _ _ hs h =>
  keptByMoves_historyOk.step_keeps hs h

/-- Settles O4: outside BUSY a step is the presented command's, on the state its words have left. -/
theorem stepRunsPresentedCommand : Obligations.StepRunsPresentedCommand := fun _ hf hb =>
  ⟨fun _ _ hd => step_presented hf hb hd, fun _ _ hd => step_presented_illegal hf hb hd⟩

/-- Settles O34: each byte of the frame is a field of the COLOR word, and the value is the four bytes in their places. -/
theorem frameLayout : Obligations.FrameLayout := by
  intro w
  constructor
  · rw [frameBytes, frameByte0_brOf, blueOf, greenOf, redOf]
    simp only [← BitVec.setWidth_ushiftRight_eq_extractLsb, BitVec.ushiftRight_zero]
  · rw [frameValue, append_bytes_eq_or, frameByte0_shifted, brOf_zeroExtend, blueOf_zeroExtend, greenOf_zeroExtend,
      redOf_zeroExtend]

end Sys2Proof.Proofs
end

section
/-! PROOFS. The encoding chapter's statements about commands (30_encoding.md R70 to R78, R87): what the decoder answers on
each kind of header, said once in `decode_cons_cases`; what it answers on an encoded command; and which words the
assembler writes. -/

namespace Sys2Proof

/-! ### What the decoder answers on each kind of header -/

/-- A header the decoder reads arguments after: WRITE's, or another command's with L zero (R75). -/
def LegalHeader (hdr : Word) : Prop :=
  opcodeOf hdr = 0x7 ∨ fixedArgs (opcodeOf hdr) ≠ none ∧ lengthOf hdr = 0

/-- A reserved opcode is illegal, whatever follows (R76). -/
theorem decode_reservedOpcode {hdr : Word} (ws : List Word) (hop : opcodeOf hdr ≠ 0x7)
    (hargs : fixedArgs (opcodeOf hdr) = none) : decode (hdr :: ws) = .illegal .reservedOpcode ws := by
  rw [decode, if_pos ⟨hop, hargs⟩]

/-- A nonzero L with an opcode that has no L is illegal, whatever follows (R76). -/
theorem decode_reservedBits {hdr : Word} (ws : List Word) (hop : opcodeOf hdr ≠ 0x7)
    (hargs : fixedArgs (opcodeOf hdr) ≠ none) (hlen : lengthOf hdr ≠ 0) :
    decode (hdr :: ws) = .illegal .reservedBits ws := by
  rw [decode, if_neg (fun h => hargs h.2), if_pos ⟨hop, hlen⟩]

/-- A legal header whose arguments have not all been presented (R78). -/
theorem decode_short {hdr : Word} {ws : List Word} (hlegal : LegalHeader hdr) (hshort : ws.length < argCount hdr) :
    decode (hdr :: ws) = .incomplete := by
  have hop : ¬(opcodeOf hdr ≠ 0x7 ∧ fixedArgs (opcodeOf hdr) = none) := fun h => hlegal.elim h.1 fun l => l.1 h.2
  have hbits : ¬(opcodeOf hdr ≠ 0x7 ∧ lengthOf hdr ≠ 0) := fun h => hlegal.elim h.1 fun l => h.2 l.2
  rw [decode, if_neg hop, if_neg hbits, if_pos hshort]

/-- The opcodes with a fixed number of arguments, by that number (R73). -/
theorem fixedArgs_eq_some {op : BitVec 4} {n : Nat} (h : fixedArgs op = some n) :
    (n = 0 ∧ (op = 0x2 ∨ op = 0x4 ∨ op = 0x8 ∨ op = 0x9 ∨ op = 0xA)) ∨ (n = 1 ∧ (op = 0x1 ∨ op = 0x3)) ∨
      (n = 2 ∧ op = 0x5) ∨ (n = 3 ∧ op = 0x6) := by
  revert n; revert op; decide

/-- SET_DIRECTION's argument is the word of a direction, or a word above 1 that names none (R74, R76). -/
theorem ofDirectionArg_cases (a : Word) (rest : List Word) :
    (∃ d : Direction, a = d.word ∧ ofDirectionArg a rest = .instr (.setDirection d) rest) ∨
      1 < a.toNat ∧ ofDirectionArg a rest = .illegal .badDirection rest := by
  unfold ofDirectionArg
  split_ifs with hzero hone
  · exact .inl ⟨.normal, BitVec.eq_of_toNat_eq hzero, rfl⟩
  · exact .inl ⟨.reversed, BitVec.eq_of_toNat_eq hone, rfl⟩
  · exact .inr ⟨by unfold u32 at hzero hone; omega, rfl⟩

/-- As many arguments as an opcode other than WRITE takes: they and the opcode are the words of one command, or they are
SET_DIRECTION's with an argument above 1 (R73, R75, R76). -/
theorem ofFixedArgs_cases {op : BitVec 4} {args : List Word} (rest : List Word)
    (hargs : fixedArgs op = some args.length) :
    (∃ i : Instr, i.wf = true ∧ encode i = header op 0 :: args ∧ ofFixedArgs op args rest = .instr i rest) ∨
      ∃ a : Word, op = 0x3 ∧ args = [a] ∧ 1 < a.toNat ∧ ofFixedArgs op args rest = .illegal .badDirection rest := by
  obtain ⟨hn, hop⟩ | ⟨hn, hop⟩ | ⟨hn, rfl⟩ | ⟨hn, rfl⟩ := fixedArgs_eq_some hargs
  · obtain rfl := List.length_eq_zero_iff.mp hn
    obtain rfl | rfl | rfl | rfl | rfl := hop
    · exact .inl ⟨.getBrightness, rfl, rfl, rfl⟩
    · exact .inl ⟨.getDirection, rfl, rfl, rfl⟩
    · exact .inl ⟨.showCmd, rfl, rfl, rfl⟩
    · exact .inl ⟨.release, rfl, rfl, rfl⟩
    · exact .inl ⟨.init, rfl, rfl, rfl⟩
  · obtain ⟨a, rfl⟩ := List.length_eq_one_iff.mp hn
    obtain rfl | rfl := hop
    · exact .inl ⟨.setBrightness a, rfl, rfl, rfl⟩
    · obtain ⟨d, rfl, hd⟩ | ⟨ha, hd⟩ := ofDirectionArg_cases a rest
      · exact .inl ⟨.setDirection d, rfl, rfl, hd⟩
      · exact .inr ⟨a, rfl, rfl, ha, hd⟩
  · obtain ⟨i, c, rfl⟩ := List.length_eq_two.mp hn
    exact .inl ⟨.setColor i c, rfl, rfl, rfl⟩
  · obtain ⟨i, c, b, rfl⟩ := List.length_eq_three.mp hn
    exact .inl ⟨.setColorB i c b, rfl, rfl, rfl⟩

/-- A legal header with all its arguments: the words of one command, or SET_DIRECTION's with an argument above 1
(R75, R76). -/
theorem ofArgs_cases {hdr : Word} {args : List Word} (rest : List Word) (hlegal : LegalHeader hdr)
    (hlen : args.length = argCount hdr) :
    (∃ i : Instr, i.wf = true ∧ encode i = hdr :: args ∧ ofArgs (opcodeOf hdr) args rest = .instr i rest) ∨
      ∃ a : Word, hdr = 0x30000000 ∧ args = [a] ∧ 1 < a.toNat ∧
        ofArgs (opcodeOf hdr) args rest = .illegal .badDirection rest := by
  by_cases hop : opcodeOf hdr = 0x7
  · rw [argCount, if_pos hop] at hlen
    refine .inl ⟨.write args, ?wf, ?words, if_pos hop⟩
    case wf => simpa [Instr.wf, hlen] using (lengthOf hdr).isLt
    case words => rw [encode, hlen, BitVec.ofNat_toNat, BitVec.setWidth_eq, ← hop, header_fields]
  · obtain ⟨hargs, hzero⟩ := hlegal.resolve_left hop
    obtain ⟨n, hn⟩ := Option.ne_none_iff_exists'.mp hargs
    rw [argCount, if_neg hop, if_pos hzero, hn, Option.getD_some] at hlen
    have hhdr : header (opcodeOf hdr) 0 = hdr := hzero ▸ header_fields hdr
    rw [ofArgs, if_neg hop]
    obtain ⟨i, hwf, hwords, hi⟩ | ⟨a, hthree, hrest⟩ := ofFixedArgs_cases rest (hlen ▸ hn)
    · exact .inl ⟨i, hwf, hhdr ▸ hwords, hi⟩
    · rw [hthree] at hhdr
      exact .inr ⟨a, hhdr.symm, hrest⟩

/-- All that the decoder can answer on a word and what follows it (R75, R76, R78). -/
theorem decode_cons_cases (hdr : Word) (ws : List Word) :
    (opcodeOf hdr ≠ 0x7 ∧ fixedArgs (opcodeOf hdr) = none ∧ decode (hdr :: ws) = .illegal .reservedOpcode ws) ∨
    (opcodeOf hdr ≠ 0x7 ∧ fixedArgs (opcodeOf hdr) ≠ none ∧ lengthOf hdr ≠ 0 ∧
      decode (hdr :: ws) = .illegal .reservedBits ws) ∨
    decode (hdr :: ws) = .incomplete ∨
    (∃ i rest, i.wf = true ∧ hdr :: ws = encode i ++ rest ∧ decode (hdr :: ws) = .instr i rest) ∨
    ∃ a rest, hdr = 0x30000000 ∧ ws = a :: rest ∧ 1 < a.toNat ∧
      decode (hdr :: ws) = .illegal .badDirection rest := by
  by_cases hlegal : LegalHeader hdr
  · obtain hshort | hall := Nat.lt_or_ge ws.length (argCount hdr)
    · exact .inr (.inr (.inl (decode_short hlegal hshort)))
    obtain ⟨args, rest, rfl, hlen⟩ : ∃ args rest, ws = args ++ rest ∧ args.length = argCount hdr :=
      ⟨_, _, (List.take_append_drop _ ws).symm, List.length_take_of_le hall⟩
    rw [decode_whole hlegal hlen]
    obtain ⟨i, hwf, hwords, hi⟩ | ⟨a, hhdr, rfl, ha, hi⟩ := ofArgs_cases rest hlegal hlen
    · exact .inr (.inr (.inr (.inl ⟨i, rest, hwf, by rw [hwords]; rfl, hi⟩)))
    · exact .inr (.inr (.inr (.inr ⟨a, rest, hhdr, rfl, ha, hi⟩)))
  · obtain ⟨hop, hrest⟩ := not_or.mp hlegal
    by_cases hargs : fixedArgs (opcodeOf hdr) = none
    · exact .inl ⟨hop, hargs, decode_reservedOpcode ws hop hargs⟩
    · have hlen : lengthOf hdr ≠ 0 := fun h => hrest ⟨hargs, h⟩
      exact .inr (.inl ⟨hop, hargs, hlen, decode_reservedBits ws hop hargs hlen⟩)

/-! ### What the decoder answers on an encoded command -/

/-- The words of a command that takes a fixed number of arguments (R73, R75). -/
theorem decode_fixedHeader {op : BitVec 4} {args : List Word} (rest : List Word) (hop : op ≠ 0x7)
    (hargs : fixedArgs op = some args.length) :
    decode (header op 0 :: (args ++ rest)) = ofFixedArgs op args rest := by
  have hlegal : LegalHeader (header op 0) := .inr ⟨by simp [hargs], lengthOf_header op 0⟩
  have hcount : argCount (header op 0) = args.length := by
    rw [argCount, opcodeOf_header, if_neg hop, lengthOf_header, if_pos rfl, hargs, Option.getD_some]
  rw [decode_whole hlegal hcount.symm, opcodeOf_header, ofArgs, if_neg hop]

/-- The words of a WRITE whose element count fits the header (R73, R75). -/
theorem decode_writeHeader {elems : List Word} (rest : List Word) (hlen : elems.length < 2 ^ 28) :
    decode (header 0x7 (BitVec.ofNat 28 elems.length) :: (elems ++ rest)) = .instr (.write elems) rest := by
  have hop := opcodeOf_header 0x7 (BitVec.ofNat 28 elems.length)
  have hcount : argCount (header 0x7 (BitVec.ofNat 28 elems.length)) = elems.length := by
    rw [argCount, if_pos hop, lengthOf_header, BitVec.toNat_ofNat, Nat.mod_eq_of_lt hlen]
  rw [decode_whole (.inl hop) hcount.symm, hop]
  rfl

/-! ### Illegal headers as numbers -/

/-- The opcodes that name no command, as numbers (R76). -/
theorem reservedOpcode_iff (op : BitVec 4) :
    (op ≠ 0x7 ∧ fixedArgs op = none) ↔ (op.toNat = 0 ∨ 0xB ≤ op.toNat) := by
  revert op; decide

/-- The opcodes of the commands without a length field, as numbers (R71, R73). -/
theorem fixedOpcode_iff (op : BitVec 4) :
    (op ≠ 0x7 ∧ fixedArgs op ≠ none) ↔ (op.toNat ≠ 0 ∧ op.toNat ≠ 7 ∧ op.toNat < 0xB) := by
  revert op; decide

/-- L is zero exactly when bits 27:0 are (R71). -/
theorem lengthOf_eq_zero_iff (hdr : Word) : lengthOf hdr = 0 ↔ hdr.toNat % 2 ^ 28 = 0 := by
  rw [← toNat_lengthOf, ← BitVec.toNat_inj]
  rfl

/-- SET_DIRECTION with an argument above 1 (R76). -/
theorem decode_badDirection {a : Word} (rest : List Word) (ha : 1 < a.toNat) :
    decode (0x30000000 :: a :: rest) = .illegal .badDirection rest := by
  have hargs : decode (0x30000000 :: a :: rest) = ofDirectionArg a rest :=
    decode_fixedHeader (op := 0x3) (args := [a]) rest (by decide) rfl
  rw [hargs, ofDirectionArg, if_neg (by unfold u32; omega), if_neg (by unfold u32; omega)]

end Sys2Proof

namespace Sys2Proof.Proofs

open Sys2Proof.Machine

/-- Settles O25: the header of each command is legal and asks for the arguments that the encoder put after it. -/
theorem decodeEncode : Obligations.DecodeEncode := by
  intro i rest hwf
  cases i with
  | setBrightness level => exact decode_fixedHeader (args := [level]) rest (by decide) rfl
  | getBrightness => exact decode_fixedHeader (args := []) rest (by decide) rfl
  | setDirection d =>
    have hargs := decode_fixedHeader (op := 0x3) (args := [d.word]) rest (by decide) rfl
    cases d <;> exact hargs
  | getDirection => exact decode_fixedHeader (args := []) rest (by decide) rfl
  | setColor index color => exact decode_fixedHeader (args := [index, color]) rest (by decide) rfl
  | setColorB index color brightness =>
    exact decode_fixedHeader (args := [index, color, brightness]) rest (by decide) rfl
  | write elems => exact decode_writeHeader rest (by simpa [Instr.wf] using hwf)
  | showCmd => exact decode_fixedHeader (args := []) rest (by decide) rfl
  | release => exact decode_fixedHeader (args := []) rest (by decide) rfl
  | init => exact decode_fixedHeader (args := []) rest (by decide) rfl

/-- Settles O26: of all that the decoder can answer, only the words of a well-formed command give a command. -/
theorem encodeDecode : Obligations.EncodeDecode := by
  intro ws i rest h
  cases ws with
  | nil => cases h
  | cons hdr ws =>
    obtain ⟨-, -, hd⟩ | ⟨-, -, -, hd⟩ | hd | ⟨j, rest', hwf, hwords, hd⟩ | ⟨a, rest', -, -, -, hd⟩ :=
      decode_cons_cases hdr ws
    case inr.inr.inr.inl =>
      cases hd.symm.trans h
      exact ⟨hwords, hwf⟩
    all_goals cases hd.symm.trans h

/-- Settles O27: the three kinds of illegal words are the three ways in which the decoder answers ILLEGAL. -/
theorem illegalEncodings : Obligations.IllegalEncodings := by
  intro hdr ws rest why
  simp only [← toNat_opcodeOf, ne_eq, ← lengthOf_eq_zero_iff]
  constructor
  · intro h
    obtain ⟨hop, hargs, hd⟩ | ⟨hop, hargs, hlen, hd⟩ | hd | ⟨i, rest', -, -, hd⟩ | ⟨a, rest', hhdr, hws, ha, hd⟩ :=
      decode_cons_cases hdr ws
    all_goals cases hd.symm.trans h
    · exact .inl ⟨rfl, (reservedOpcode_iff _).mp ⟨hop, hargs⟩, rfl⟩
    · obtain ⟨h0, h7, hB⟩ := (fixedOpcode_iff _).mp ⟨hop, hargs⟩
      exact .inr (.inl ⟨rfl, h0, h7, hB, hlen, rfl⟩)
    · exact .inr (.inr ⟨rfl, hhdr, a, hws, ha⟩)
  · rintro (⟨rfl, hop, rfl⟩ | ⟨rfl, h0, h7, hB, hlen, rfl⟩ | ⟨rfl, rfl, a, rfl, ha⟩)
    · obtain ⟨hop, hargs⟩ := (reservedOpcode_iff _).mpr hop
      exact decode_reservedOpcode rest hop hargs
    · obtain ⟨hop, hargs⟩ := (fixedOpcode_iff _).mpr ⟨h0, h7, hB⟩
      exact decode_reservedBits rest hop hargs hlen
    · exact decode_badDirection rest ha

/-- Settles O28: each word list is closed, so the decoder runs on it. -/
theorem specWordsDecode : Obligations.SpecWordsDecode := by
  unfold Obligations.SpecWordsDecode
  decide

/-- Settles O29: each line is closed, so the assembler runs on it. -/
theorem assemblerLines : Obligations.AssemblerLines := by
  unfold Obligations.AssemblerLines
  decide

/-- Settles O30: the assembler writes the encoding of a command it has found well-formed, and that decodes to it (O25). -/
theorem assembledLinesDecode : Obligations.AssembledLinesDecode := by
  intro line ws h
  obtain ⟨i, -, hi⟩ := Option.bind_eq_some_iff.mp h
  obtain ⟨hwf, hws⟩ := Option.ite_none_right_eq_some.mp hi
  obtain rfl := Option.some.inj hws
  refine ⟨i, hwf, rfl, ?_⟩
  simpa using decodeEncode i [] hwf

end Sys2Proof.Proofs
end

section
/-! PROOFS. The encoding chapter's statements about the wire and the responses (30_encoding.md R79 to R86): the wire bits
of a show read off its byte view, the marker of a frame, closed clock pulses, and the fields of response word 0. -/

namespace Sys2Proof.Machine

open Sys2Proof.Statements

/-! ### The wire bits of an event list -/

/-- Bits sent one after another are the wire bits, and the last of them is the level the data line is left with
(R81, R141). -/
theorem wireBits_writeBits_append (level : Bool) (bs : List Bool) (es : List Event) :
    wireBits level (bs.flatMap writeBit ++ es) = bs ++ wireBits (bs.getLastD level) es := by
  induction bs generalizing level with
  | nil => rfl
  | cons b bs ih =>
    have hbit : wireBits level ((b :: bs).flatMap writeBit ++ es) = b :: wireBits b (bs.flatMap writeBit ++ es) := rfl
    rw [hbit, ih, List.getLastD_cons, List.cons_append]

/-- Clock pulses with no data event between them repeat the level of the data line (R81, R145). -/
theorem wireBits_pulses (level : Bool) (n : Nat) :
    wireBits level (List.replicate n pulse).flatten = List.replicate n level := by
  induction n with
  | zero => rfl
  | succ n ih =>
    rw [List.replicate_succ, List.flatten_cons, List.replicate_succ, ← ih]
    rfl

/-- The latch sends the zeros of the end sequence, whatever level the data line had (R84, R145). -/
theorem wireBits_latch (level : Bool) : wireBits level latch = List.replicate 36 false :=
  wireBits_pulses false Config.pLatchPulses

/-! ### A show as the bits of its bytes -/

/-- A show sends the bits of its byte view and then the latch (R146, R147). -/
theorem showTrace_eq_writeBits (color : Vector Word Config.pN) (d : Direction) :
    showTrace color d = ((showBytes color d).flatMap bitsMsbFirst).flatMap writeBit ++ latch := by
  have hbyte : ∀ bytes : List Byte, bytes.flatMap writeByte = (bytes.flatMap bitsMsbFirst).flatMap writeBit :=
    fun _ => List.flatMap_assoc.symm
  rw [← hbyte, showBytes, List.flatMap_append, List.flatMap_assoc]
  rfl

/-- The bits of the preamble (R9, R82). -/
theorem preambleBytes_bits : preambleBytes.flatMap bitsMsbFirst = List.replicate 32 false := by decide

/-- The bits of a frame's bytes are the bits of its value, bit 31 first (R83). -/
theorem frameBytes_bits (w : Word) : (frameBytes w).flatMap bitsMsbFirst = bits32 (frameValue w) := by
  simp [frameBytes, bitsMsbFirst, bits32, List.range_succ, getLsbD_frameValue]

/-- The top three bits of a frame's value are the marker (R83, R86). -/
theorem getLsbD_frameValue_marker (w : Word) {i : Nat} (hlow : 29 ≤ i) (hhigh : i < 32) :
    (frameValue w).getLsbD i = true := by
  rw [getLsbD_frameValue, if_neg (by omega), if_neg (by omega), if_neg (by omega), getLsbD_frameByte0,
    if_neg (by omega)]
  exact decide_eq_true (by omega)

/-! ### Closed pulses -/

/-- Every rising clock event of a list is directly followed by the falling one (R266). -/
def ClosedPulses (es : List Event) : Prop :=
  ∀ k : Nat, es[k]? = some (.setClock true) → es[k + 1]? = some (.setClock false)

/-- A list without a rising clock event has no open pulse. -/
theorem ClosedPulses.of_not_mem {es : List Event} (h : Event.setClock true ∉ es) : ClosedPulses es :=
  fun _ hk => absurd (List.mem_of_getElem? hk) h

/-- Closed pulses one after another: no pulse goes over the seam. -/
theorem ClosedPulses.append {es fs : List Event} (hes : ClosedPulses es) (hfs : ClosedPulses fs) :
    ClosedPulses (es ++ fs) := by
  intro k hk
  obtain hlt | hge := Nat.lt_or_ge k es.length
  · rw [List.getElem?_append_left hlt] at hk
    have hnext := hes k hk
    obtain ⟨hlt', -⟩ := List.getElem?_eq_some_iff.mp hnext
    rwa [List.getElem?_append_left hlt']
  · rw [List.getElem?_append_right hge] at hk
    rw [List.getElem?_append_right (by omega), Nat.sub_add_comm hge]
    exact hfs _ hk

/-- Closed pulses of each part. -/
theorem ClosedPulses.flatMap {α : Type} (l : List α) {f : α → List Event} (h : ∀ a ∈ l, ClosedPulses (f a)) :
    ClosedPulses (l.flatMap f) := by
  induction l with
  | nil => exact .of_not_mem List.not_mem_nil
  | cons a l ih =>
    rw [List.flatMap_cons]
    exact (h a List.mem_cons_self).append (ih fun b hb => h b (List.mem_cons_of_mem a hb))

/-- A pulse is closed (R145). -/
theorem closedPulses_pulse : ClosedPulses pulse
  | 0, _ => rfl
  | 1, h => nomatch h
  | _ + 2, h => nomatch h

/-- The pulse of one bit is closed (R141). -/
theorem closedPulses_writeBit (v : Bool) : ClosedPulses (writeBit v) :=
  .append (es := [.setData v]) (.of_not_mem (by simp)) closedPulses_pulse

/-- The pulses of the latch are closed (R145). -/
theorem closedPulses_latch : ClosedPulses latch := by
  rw [latch, ← List.flatMap_id]
  exact .append (es := [.setData false]) (.of_not_mem (by simp))
    (.flatMap _ fun _ hp => List.eq_of_mem_replicate hp ▸ closedPulses_pulse)

/-- The pulses of a show are closed (R146). -/
theorem closedPulses_showTrace (color : Vector Word Config.pN) (d : Direction) :
    ClosedPulses (showTrace color d) := by
  rw [showTrace_eq_writeBits]
  exact .append (.flatMap _ fun v _ => closedPulses_writeBit v) closedPulses_latch

/-- The pulses of every command's list are closed (R31). -/
theorem closedPulses_eventList (c : SeqCmd) (color : Vector Word Config.pN) (d : Direction) :
    ClosedPulses (eventList c color d) := by
  cases c with
  | showCmd => exact closedPulses_showTrace color d
  | write => exact closedPulses_showTrace color d
  | init => exact .append (.of_not_mem (by simp)) (closedPulses_showTrace color d)
  | release => exact .of_not_mem (by simp [eventList])

/-! ### Response word 0 as a number -/

/-- A field placed above another, as a number. -/
theorem toNat_append_eq_add {m n : Nat} (x : BitVec m) (y : BitVec n) :
    (x ++ y).toNat = x.toNat * 2 ^ n + y.toNat := by
  rw [BitVec.toNat_append, ← Nat.shiftLeft_add_eq_or_of_lt y.isLt, Nat.shiftLeft_eq]

/-- FAIL_POS stands above bit 16 of response word 0, STATUS below it (R79). -/
theorem toNat_statusWord (r : Resp) :
    (statusWord r).toNat = (failPosField r).toNat * 65536 + (statusCode r.status).toNat := by
  have hgap : (0 : BitVec 14).toNat = 0 := rfl
  rw [statusWord, toNat_append_eq_add, toNat_append_eq_add, hgap]
  omega

/-- A FAIL_POS of at most 938 fits its field (R28, R79). -/
theorem toNat_failPosField {r : Resp} (h : r.failPos ≤ 938) :
    (failPosField r).toNat = if r.status = .transportFailure then r.failPos else 0 := by
  unfold failPosField
  split
  · rw [BitVec.toNat_ofNat, Nat.mod_eq_of_lt (by omega)]
  · rfl

/-- The code of a status as a number (R80). -/
theorem toNat_statusCode (st : Status) : (statusCode st).toNat = statusNumber st := by
  cases st <;> rfl

end Sys2Proof.Machine

namespace Sys2Proof.Proofs

open Sys2Proof.Machine Sys2Proof.Statements

/-- Settles O36: the bits of the preamble, of each frame in wire order and of the latch, in the order of the byte view. -/
theorem showWireBits : Obligations.ShowWireBits := by
  intro color d level
  have hframes : (wireWords color d).flatMap (fun w => (frameBytes w).flatMap bitsMsbFirst) =
      (List.finRange 8).flatMap fun p => bits32 (frameValue color[src p d]) := by
    simp only [frameBytes_bits]
    rw [wireWords, List.flatMap_map]
  rw [showTrace_eq_writeBits, wireBits_writeBits_append, wireBits_latch, showBytes, List.flatMap_append,
    preambleBytes_bits, List.flatMap_assoc, hframes]

/-- Settles O39: every list is built from closed pulses and events that are no rising clock. -/
theorem pulsesAreClosed : Obligations.PulsesAreClosed := closedPulses_eventList

/-- Settles O37: the first three bits of the frame are the top bits of byte 0, which are the marker. -/
theorem frameStartsWithMarker : Obligations.FrameStartsWithMarker := by
  intro w
  have h31 := getLsbD_frameValue_marker w (i := 31) (by decide) (by decide)
  have h30 := getLsbD_frameValue_marker w (i := 30) (by decide) (by decide)
  have h29 := getLsbD_frameValue_marker w (i := 29) (by decide) (by decide)
  constructor
  · have htake : (bits32 (frameValue w)).take 3 =
        [(frameValue w).getLsbD 31, (frameValue w).getLsbD 30, (frameValue w).getLsbD 29] := rfl
    rw [htake, h31, h30, h29]
  · intro hzero
    rw [hzero] at h31
    cases h31

/-- Settles O31: the status word is its two fields, and each is the number the spec gives. -/
theorem statusWordLayout : Obligations.StatusWordLayout := by
  intro r h
  rw [toNat_statusWord, toNat_failPosField h, toNat_statusCode]

end Sys2Proof.Proofs
end

section
/-! PROOFS. The encoding chapter's equivalences between commands (30_encoding.md R88): a meaning that reads the same state
and writes the same words, and commands run in a row. -/

namespace Sys2Proof.Machine

open Sys2Proof.Statements

/-- Behind the same gate, bodies that do the same to this state give the same outcome (R216). -/
theorem gated_congr {c : Column} {f g : State → State} {s : State} (h : f s = g s) : gated c f s = gated c g s := by
  simp only [gated, h]

/-- In READY every command but INIT has its own effect (R214). -/
theorem exec_of_ready {i : Instr} {s : State} (hs : Ready s) (hi : i ≠ .init) : exec i s = .next (bodyOf i s) := by
  obtain ⟨hf, hl⟩ := hs
  have hgate : gate .ready (columnOf i) = none := by
    cases i with
    | init => exact absurd rfl hi
    | _ => rfl
  rw [exec_eq_gated, gated_admitted hf (hl ▸ hgate)]

/-- In READY a SET_COLOR of one of the eight words writes it with the BRIGHTNESS of the moment (R105). -/
theorem exec_setColor_of_ready {s : State} (hs : Ready s) (j : Fin Config.pN) (c : Word) :
    exec (.setColor (BitVec.ofNat 32 j.val) c) s = .next (respond .ok (writeColor j (pack s.brightness c) s)) := by
  rw [exec_of_ready hs (by nofun), bodyOf, indexArg_ofNat]

/-- The first command of a row that answers a next state leaves the others to run on it. -/
theorem execAll_cons_next {i : Instr} {is : List Instr} {s t : State} (h : exec i s = .next t) :
    execAll (i :: is) s = execAll is t := by
  rw [execAll, h]

/-- A row of commands and one more command: it runs on what the row left. -/
theorem execAll_append {is js : List Instr} {s t : State} (h : execAll is s = some t) :
    execAll (is ++ js) s = execAll js t := by
  induction is generalizing s with
  | nil => rw [← Option.some.inj h, List.nil_append]
  | cons i is ih =>
    rw [execAll] at h
    rw [List.cons_append, execAll]
    split at h
    · exact ih h
    all_goals cases h

/-- What WRITE leaves word `j` with: its element there, packed, else the old word (R107). -/
theorem writeColors_color_getElem? (s : State) (es : List Word) (j : Fin Config.pN) :
    (writeColors es s).color[j] = (es[j.val]?.map (pack s.brightness)).getD s.color[j] := by
  cases h : es[j.val]? <;> simp [writeColors, h]

/-- The SET_COLORs of a list of colours, from word `k` of the buffer on (R88). -/
def setColorsFrom (k : Nat) (es : List Word) : List Instr :=
  (es.zipIdx k).map fun e => .setColor (BitVec.ofNat 32 e.2) e.1

/-- In READY, SET_COLORs in a row write their words with the BRIGHTNESS of the moment and keep the others (R88, R105). -/
theorem execAll_setColorsFrom {es : List Word} {k : Nat} {s : State} (hs : Ready s) (hk : k + es.length ≤ Config.pN) :
    ∃ t : State, execAll (setColorsFrom k es) s = some t ∧ Ready t ∧ t.direction = s.direction ∧
      ∀ j : Fin Config.pN, t.color[j] =
        if j.val < k then s.color[j] else (es[j.val - k]?.map (pack s.brightness)).getD s.color[j] := by
  induction es generalizing k s with
  | nil => exact ⟨s, rfl, hs, rfl, fun j => (ite_self _).symm⟩
  | cons e es ih =>
    rw [List.length_cons] at hk
    let i : Fin Config.pN := ⟨k, by omega⟩
    obtain ⟨t, hrun, hready, hdir, hcolor⟩ :=
      ih (k := k + 1) (s := respond .ok (writeColor i (pack s.brightness e) s)) hs (by omega)
    refine ⟨t, ?_, hready, hdir, fun j => ?_⟩
    · rw [← hrun]
      exact execAll_cons_next (exec_setColor_of_ready hs i e)
    rw [hcolor]
    obtain hlt | rfl | hgt := lt_trichotomy j i
    · have hj : j.val < k := hlt
      rw [if_pos (by omega), if_pos hj]
      simp [i, hj.ne']
    · simp [i]
    · obtain ⟨m, hm⟩ := Nat.exists_eq_add_of_lt (show k < j.val from hgt)
      have htail : j.val - k = m + 1 := by omega
      have hsub : j.val - (k + 1) = m := by omega
      rw [if_neg (by omega), if_neg (by omega), htail, hsub, List.getElem?_cons_succ]
      simp [i, show k ≠ j.val by omega]

end Sys2Proof.Machine

namespace Sys2Proof.Proofs

open Sys2Proof.Machine Sys2Proof.Statements

/-- Settles O22: both commands stand behind the same gate, and a BRIGHTNESS passed as an argument is accepted and reads
back as itself. -/
theorem setColorUsesDefaultBrightness : Obligations.SetColorUsesDefaultBrightness := by
  intro index color s
  rw [exec_eq_gated, exec_eq_gated]
  refine gated_congr ?_
  rw [bodyOf, bodyOf, brightnessArg_zeroExtend]
  cases indexArg index <;> rfl

/-- Settles O23: the SET_COLORs leave the COLOR words that WRITE writes, and both then start a show on them. -/
theorem writeIsSetColorsThenShow : Obligations.WriteIsSetColorsThenShow := by
  intro elems s hs
  obtain ⟨t, hrun, hready, hdir, hcolor⟩ := execAll_setColorsFrom (es := elems.take 8) (k := 0) hs (by simp)
  have hsame : (writeColors elems s).color = t.color := by
    refine Vector.ext fun j hj => ?_
    have hwrite := writeColors_color_getElem? s elems ⟨j, hj⟩
    have hset := hcolor ⟨j, hj⟩
    rw [if_neg (Nat.not_lt_zero _), Nat.sub_zero, List.getElem?_take_of_lt hj] at hset
    exact hwrite.trans hset.symm
  have hshow : exec .showCmd t = .next (startList .showCmd t) := exec_of_ready hready (by nofun)
  refine ⟨startList .write (writeColors elems s), startList .showCmd t, exec_of_ready hs (by nofun), ?_, hsame, ?_, rfl,
    rfl⟩
  · rw [← setColorsFrom, execAll_append hrun, execAll_cons_next hshow, execAll]
  · simp only [startList_seqTrace, eventList, hsame, hdir, writeColors_direction]

end Sys2Proof.Proofs
end

section
/-! PROOFS. The strip-state chapter's statements (40_strip_state.md R100 to R108, 41_protocol_encoder.md R140, R151). The
facts they share come first: the packed word's layout, the two ways an argument word reads, a response written out, a row
of SET_COLOR_Bs, the step that takes a WRITE, a list that one event's failure aborts. -/

namespace Sys2Proof.Machine

open Sys2Proof.Statements

/-! ### The packed word -/

/-- The packed word as a number: the brightness above the 24 colour bits (R100). -/
theorem toNat_pack (br : BitVec 5) (c : Word) :
    (pack br c).toNat = br.toNat * 2 ^ 24 + (c.extractLsb' 0 24).toNat := by
  have hcolor : c &&& 0x00FFFFFF = (c.extractLsb' 0 24).setWidth 32 :=
    (setWidth_extractLsb'_eq_and c 0 (len := 24) (by decide)).symm
  have hbr : (br.zeroExtend 32 <<< 24).toNat = 2 ^ 24 * br.toNat := by
    have := br.isLt
    simp [Nat.shiftLeft_eq]
    omega
  rw [pack, BitVec.toNat_or, hbr, hcolor, BitVec.toNat_setWidth_of_le (by decide),
    ← Nat.two_pow_add_eq_or_of_lt (c.extractLsb' 0 24).isLt, Nat.mul_comm]

/-- The packed word is its three fields in a row (R100). -/
theorem pack_eq_append (br : BitVec 5) (c : Word) : pack br c = (0 : BitVec 3) ++ br ++ c.extractLsb' 0 24 := by
  apply BitVec.eq_of_toNat_eq
  have hzero : ((0 : BitVec 3) ++ br).toNat = br.toNat := (toNat_append_eq_add 0 br).trans (by simp)
  rw [toNat_pack, toNat_append_eq_add, hzero]

/-! ### Argument words in and out of range -/

/-- A brightness argument in range is a 5-bit value, which it reads as (R74). -/
theorem brightnessArg_of_inRange {w : Word} (h : 0 ≤ w.toInt ∧ w.toInt ≤ 31) :
    ∃ br : BitVec 5, w = br.zeroExtend 32 ∧ brightnessArg w = some br :=
  have hread : brightnessArg w = some (w.extractLsb' 0 5) := if_pos h
  ⟨_, brightnessArg_eq_some_iff.mp hread, hread⟩

/-- A brightness argument out of range is refused (R74). -/
theorem brightnessArg_of_outOfRange {w : Word} (h : ¬(0 ≤ w.toInt ∧ w.toInt ≤ 31)) : brightnessArg w = none :=
  if_neg h

/-- An index argument in range is one of the eight buffer indices, which it reads as (R50, R74). -/
theorem indexArg_of_inRange {w : Word} (h : 0 ≤ w.toInt ∧ w.toInt < 8) :
    ∃ i : Fin Config.pN, w.toNat = i.val ∧ indexArg w = some i := by
  obtain ⟨i, hread⟩ : ∃ i, indexArg w = some i := ⟨_, if_pos h⟩
  refine ⟨i, ?_, hread⟩
  rw [indexArg_eq_some_iff.mp hread, BitVec.toNat_ofNat, Nat.mod_eq_of_lt (i.isLt.trans (by decide))]

/-- An index argument out of range is refused (R50, R74). -/
theorem indexArg_of_outOfRange {w : Word} (h : ¬(0 ≤ w.toInt ∧ w.toInt < 8)) : indexArg w = none :=
  if_neg h

/-- The 5-bit register holds the signed value of the argument word it was passed as (R101). -/
theorem ofInt_toInt_zeroExtend (br : BitVec 5) : BitVec.ofInt 5 (br.zeroExtend 32).toInt = br := by
  revert br; decide

/-! ### Responses written out -/

/-- OK of a command that is no GET, field by field (R79, R210). -/
theorem respond_ok (s : State) : respond .ok s = { s with resp := okResp, respWords := [0x00000000] } := by
  rw [respond, answerHost, responseWords_ok]

/-- INVALID_ARGUMENT, field by field (R79, R211). -/
theorem respond_invalidArgument (s : State) :
    respond .invalidArgument s = { s with resp := ⟨.invalidArgument, 0, 0, none⟩, respWords := [0x00000001] } := by
  rw [respond, answerHost, responseWords_invalid]

/-- OK of a GET command, field by field (R79, R102, R104). -/
theorem respondValue_eq (v : Word) (s : State) :
    respondValue v s = { s with resp := ⟨.ok, v, 0, none⟩, respWords := [0x00000000, v] } := by
  rw [respondValue, answerHost, responseWords_get]

/-- The write of one word, by its index as a number (R16). -/
theorem writeColor_eq_setIfInBounds (i : Fin Config.pN) (v : Word) (s : State) :
    writeColor i v s = { s with color := s.color.setIfInBounds i.val v } := by
  have hset : s.color.set i v = s.color.setIfInBounds i.val v :=
    Vector.ext fun j hj => by rw [Vector.getElem_set, Vector.getElem_setIfInBounds]
  rw [writeColor, hset]

/-! ### A row of SET_COLOR_Bs -/

/-- In READY a SET_COLOR_B of one of the eight words with a brightness in range writes it (R106). -/
theorem exec_setColorB_of_ready {s : State} (hs : Ready s) (j : Fin Config.pN) (c : Word) (br : BitVec 5) :
    exec (.setColorB (BitVec.ofNat 32 j.val) c (br.zeroExtend 32)) s =
      .next (respond .ok (writeColor j (pack br c) s)) := by
  rw [exec_of_ready hs (by nofun), bodyOf, indexArg_ofNat, brightnessArg_zeroExtend]

/-- In READY, SET_COLOR_Bs in a row pack the words they name and keep the others, with BRIGHTNESS, DIRECTION and the
history (R106, R108). -/
theorem execAll_setColorBs (b : Fin Config.pN → BitVec 5) (c : Fin Config.pN → Word) {is : List (Fin Config.pN)}
    {s : State} (hs : Ready s) :
    ∃ t : State,
      execAll (is.map fun i => Instr.setColorB (BitVec.ofNat 32 i.val) (c i) ((b i).zeroExtend 32)) s = some t ∧
      (∀ j : Fin Config.pN, t.color[j] = if j ∈ is then pack (b j) (c j) else s.color[j]) ∧ Ready t ∧
      t.brightness = s.brightness ∧ t.direction = s.direction ∧ t.history = s.history := by
  induction is generalizing s with
  | nil => exact ⟨s, rfl, fun j => by simp, hs, rfl, rfl, rfl⟩
  | cons i is ih =>
    obtain ⟨t, hrun, hcolor, hrest⟩ := ih (s := respond .ok (writeColor i (pack (b i) (c i)) s)) hs
    refine ⟨t, ?_, fun j => ?_, hrest⟩
    · rw [← hrun]
      exact execAll_cons_next (exec_setColorB_of_ready hs i (c i) (b i))
    · rw [hcolor]
      by_cases hlater : j ∈ is
      · simp [hlater]
      · by_cases hij : i = j
        · simp [hlater, hij]
        · simp [hlater, Ne.symm hij, Fin.val_ne_of_ne hij]

/-! ### The step that takes a WRITE -/

/-- In READY a WRITE writes the buffer and starts a show on the new words (R107, R140). -/
theorem exec_write_of_ready {s : State} (elems : List Word) (hs : Ready s) :
    exec (.write elems) s = .next (startList .write (writeColors elems s)) :=
  exec_of_ready hs (by nofun)

/-- The step that takes a WRITE in READY (R61, R107). -/
theorem step_write {s : State} {elems rest : List Word} (hs : Ready s) (hlen : elems.length < 2 ^ 28)
    (hp : s.port = encode (.write elems) ++ rest) :
    step s = .next (startList .write (writeColors elems { s with port := rest })) := by
  have hd : decode s.port = .instr (.write elems) rest := hp ▸ decode_writeHeader rest hlen
  obtain ⟨hf, hl⟩ := hs
  rw [step_presented hf (by simp [hl]) hd]
  exact exec_write_of_ready (s := { s with port := rest }) elems ⟨hf, hl⟩

/-! ### A list that a `Fail` aborts -/

/-- An event that fails outside a show keeps what the strip displays (R182; log entry 9). -/
theorem emit_fail_display {ev : Event} {s : State} (hshow : inShow s = false) :
    (emit ev .fail s).display = s.display := by
  have hemit : (emit ev .fail s).display =
      (disturbDisplay (inShow s) (applyFail ev (record ev .fail (markShowStart s)))).display := rfl
  rw [hemit, hshow]
  rfl

/-- The step whose event is answered `Fail` ends the list (R149, R151, R177). -/
theorem step_fail {s : State} {ev : Event} {more : List Answer} (hf : s.fault = none) (hb : s.life = .busy)
    (hw : s.hostWaits = true) (hev : s.seqTrace[s.seqPos]? = some ev) (ha : s.answers = .fail :: more) :
    ∃ t : State, step s = .next t ∧ SameCommandState s t ∧ t.life = lifeAfterFail s.seqCmd ∧ t.answers = more ∧
      t.resp = ⟨.transportFailure, 0, s.seqPos, some ev⟩ ∧
      t.respWords = [statusWord ⟨.transportFailure, 0, s.seqPos, some ev⟩] ∧ t.history = s.history ++ [(ev, .fail)] ∧
      t.dataOut = (applyFail ev s).dataOut ∧ t.clkOut = (applyFail ev s).clkOut ∧
      (inShow s = false → t.display = s.display) := by
  have hstep : step s = .next (emit ev .fail (takeAnswer s)) := by
    rw [step_busy_waiting hf hb hw, seqStep_answered hev (nextAnswer_listed ha)]
  have htake : SameCommandState s (takeAnswer s) := by constructor <;> rfl
  obtain ⟨_, _, hemit⟩ := emit_fail_eq ev (takeAnswer s)
  refine ⟨_, hstep, htake.trans (emit_same ev .fail _), ?_, ?_, ?_, ?_, emit_history ev .fail _, ?_, ?_, ?display⟩
  case display => exact fun hshow => emit_fail_display (s := takeAnswer s) hshow
  all_goals simp [hemit, ha, responseWords]

/-- What the list running in `s` has done in `t`, after `k` of its events were answered `Ok` and the next one, `ev`, was
answered `Fail` (R149, R151, R177). The strip keeps its display where the list had not come to its show (log entry 9). -/
structure ListAborted (k : Nat) (ev : Event) (s t : State) : Prop where
  same : SameCommandState s t
  life : t.life = lifeAfterFail s.seqCmd
  resp : t.resp = ⟨.transportFailure, 0, k, some ev⟩
  respWords : t.respWords = [statusWord ⟨.transportFailure, 0, k, some ev⟩]
  history : t.history = s.history ++ (s.seqTrace.take k).map (fun e => (e, Answer.ok)) ++ [(ev, .fail)]
  dataOut : t.dataOut = if lineOf ev = .data then .x else dataOutAfter s.dataOut (s.seqTrace.take k)
  clkOut : t.clkOut = if lineOf ev = .clk then .x else clkOutAfter s.clkOut (s.seqTrace.take k)
  display : (∀ p, showStart s.seqCmd = some p → k < p) → t.display = s.display

/-- A run of a list whose event at position `k` is the first that fails: `run_ok` up to it, then the step that aborts the
list (R149, R151). -/
theorem run_list_fail {s : State} {k : Nat} {ev : Event} {more : List Answer} (hf : s.fault = none)
    (hb : s.life = .busy) (hw : s.hostWaits = true) (hpos : s.seqPos = 0) (hev : s.seqTrace[k]? = some ev)
    (ha : s.answers = List.replicate k .ok ++ .fail :: more) :
    ∃ t : State, core.run (k + 1) s = .next t ∧ ListAborted k ev s t ∧ t.answers = more := by
  obtain ⟨hk, -⟩ := List.getElem?_eq_some_iff.mp hev
  obtain ⟨(u : State), hrun, hsame, hbusy, hupos, hans, -, -, hhist, hdata, hclk, -, -, hdisp⟩ :=
    run_ok hf hb hw (by omega) ha
  simp only [hpos, Nat.zero_add, List.drop_zero] at hupos hhist hdata hclk
  have hev' : u.seqTrace[u.seqPos]? = some ev := by rw [hsame.seqTrace, hupos, hev]
  obtain ⟨t, hstep, hsame', hlife, hmore, hresp, hwords, hhist', hdata', hclk', hdisp'⟩ :=
    step_fail (hsame.fault.trans hf) hbusy (hsame.hostWaits.trans hw) hev' hans
  refine ⟨t, by rw [run_add hrun, run_succ hstep]; rfl, ?_, hmore⟩
  constructor
  case same => exact hsame.trans hsame'
  case life => rw [hlife, hsame.seqCmd]
  case resp => rw [hresp, hupos]
  case respWords => rw [hwords, hupos]
  case history => rw [hhist', hhist]
  case dataOut => rw [hdata', applyFail_dataOut, hdata]
  case clkOut => rw [hclk', applyFail_clkOut, hclk]
  case display =>
    intro hbefore
    have hshow : inShow u = false := by
      rw [inShow, hsame.seqCmd, hupos]
      cases hstart : showStart s.seqCmd with
      | none => rfl
      | some p => exact decide_eq_false (Nat.not_le.mpr (hbefore p hstart))
    rw [hdisp' hshow, hdisp]

end Sys2Proof.Machine

namespace Sys2Proof.Proofs

open Sys2Proof.Machine Sys2Proof.Statements

/-- Settles O17: the words WRITE leaves are those of `writeColors`, and the show starts on them. -/
theorem writeResult : Obligations.WriteResult := fun elems s hs =>
  ⟨(writeColors elems s).color, writeColors_color_get s elems, exec_write_of_ready elems hs⟩

/-- Settles O24: the row names every index, so every word is packed. -/
theorem colorRoundTrip : Obligations.ColorRoundTrip := by
  intro b c s hs
  obtain ⟨t, hrun, hcolor, hrest⟩ := execAll_setColorBs b c (is := List.finRange 8) hs
  exact ⟨t, hrun, fun i => (hcolor i).trans (if_pos (List.mem_finRange i)), hrest⟩

/-- Settles O50: one step writes the words and starts the show (`step_write`), k + 1 answers abort it (`run_list_fail`), and
the abort keeps the words. -/
theorem failedWriteKeepsBuffer : Obligations.FailedWriteKeepsBuffer := by
  intro s elems rest more k hs hw hlen hport hk hans
  have hstep := step_write hs hlen hport
  set u := startList .write (writeColors elems { s with port := rest })
  have htrace : u.seqTrace = showTrace u.color s.direction := rfl
  have hlt : k < u.seqTrace.length := by rw [htrace, showTrace_length]; exact hk
  have hev : u.seqTrace[k]? = some u.seqTrace[k] := List.getElem?_eq_getElem hlt
  obtain ⟨t, hrun, hdone, -⟩ := run_list_fail (s := u) hs.1 rfl hw rfl hev hans
  refine ⟨t, u.seqTrace[k], (run_succ hstep).trans hrun, ⟨hdone.same.fault.trans hs.1, hdone.life⟩, hdone.resp,
    fun j => ?_, ?_, hdone.same.brightness, hdone.same.direction, ?_, hdone.same.port⟩
  · rw [hdone.same.color]
    exact writeColors_color_get _ elems j
  · rw [hdone.same.color, ← htrace, hev]
  · rw [hdone.history, List.length_append, List.length_append, List.length_map, List.length_take_of_le hlt.le]
    rfl

/-- Settles O51: one step writes the words and starts the show (`step_write`), 937 answers finish it (`run_list_ok`). -/
theorem writeRunsToCompletion : Obligations.WriteRunsToCompletion := by
  intro s elems rest more hs hw hlen hport hans
  have hstep := step_write hs hlen hport
  set u := startList .write (writeColors elems { s with port := rest })
  have htrace : u.seqTrace = showTrace u.color s.direction := rfl
  have htotal : u.seqTrace.length = 937 := showTrace_length _ _
  obtain ⟨t, hrun, hdone, -⟩ :=
    run_list_ok (s := u) (more := more) hs.1 rfl hw rfl (List.ne_nil_of_length_pos (by omega))
      (by rw [htotal]; exact hans)
  refine ⟨t, ?_, ⟨hdone.same.fault.trans hs.1, hdone.life⟩, hdone.resp, hdone.respWords, fun j => ?_,
    hdone.same.brightness, hdone.same.direction, ?_, ?_, ?_, hdone.same.port, fun hlow p => ?_⟩
  · rw [run_succ hstep, ← htotal, hrun]
  · rw [hdone.same.color]
    exact writeColors_color_get _ elems j
  · rw [hdone.dataOut, htrace, dataOutAfter_showTrace]
  · rw [hdone.clkOut, htrace, clkOutAfter_showTrace]
  · rw [hdone.history, htrace, hdone.same.color]
    rfl
  · rw [hdone.display 0 rfl (by omega) hlow, shownFrames_get, hdone.same.color]
    rfl

/-- Settles O11: the argument in range is a 5-bit value, which BRIGHTNESS takes; out of range it is refused. -/
theorem setBrightnessResult : Obligations.SetBrightnessResult := by
  intro level rest s hs
  refine ⟨?_, decodeEncode (.setBrightness level) rest rfl⟩
  rw [exec_of_ready hs (by nofun), bodyOf]
  by_cases hin : 0 ≤ level.toInt ∧ level.toInt ≤ 31
  · obtain ⟨br, rfl, hread⟩ := brightnessArg_of_inRange hin
    simp only [hread, respond_ok]
    rw [if_pos hin, ofInt_toInt_zeroExtend]
  · simp only [brightnessArg_of_outOfRange hin, respond_invalidArgument]
    rw [if_neg hin]

/-- Settles O12: the response carries the register, zero-extended. -/
theorem getBrightnessResult : Obligations.GetBrightnessResult := by
  intro rest s hs
  refine ⟨?_, decodeEncode .getBrightness rest rfl⟩
  have hvalue : s.brightness.zeroExtend 32 = BitVec.ofNat 32 s.brightness.toNat :=
    (BitVec.ofNat_toNat 32 s.brightness).symm
  rw [exec_of_ready hs (by nofun), bodyOf, respondValue_eq, hvalue]

/-- Settles O13: the decoder has checked the direction, so the command stores it. -/
theorem setDirectionResult : Obligations.SetDirectionResult := by
  intro d rest s hs
  refine ⟨?_, ?_, fun a ha => decode_badDirection rest ha⟩
  · rw [exec_of_ready hs (by nofun), bodyOf, respond_ok]
  · cases d with
    | normal => exact decodeEncode (.setDirection .normal) rest rfl
    | reversed => exact decodeEncode (.setDirection .reversed) rest rfl

/-- Settles O14: the response carries DIRECTION's bit. -/
theorem getDirectionResult : Obligations.GetDirectionResult := by
  intro rest s hs
  refine ⟨?_, decodeEncode .getDirection rest rfl⟩
  have hvalue : directionValue s.direction = if s.direction = .reversed then 1 else 0 := by
    cases s.direction <;> rfl
  rw [exec_of_ready hs (by nofun), bodyOf, respondValue_eq, hvalue]

/-- Settles O15: the index in range names one word, which is packed with BRIGHTNESS; out of range it is refused. -/
theorem setColorResult : Obligations.SetColorResult := by
  intro index color rest s hs
  refine ⟨?_, decodeEncode (.setColor index color) rest rfl⟩
  rw [exec_of_ready hs (by nofun), bodyOf]
  by_cases hin : 0 ≤ index.toInt ∧ index.toInt < 8
  · obtain ⟨i, hi, hread⟩ := indexArg_of_inRange hin
    simp only [hread, respond_ok, writeColor_eq_setIfInBounds]
    rw [if_pos hin, hi, pack]
  · simp only [indexArg_of_outOfRange hin, respond_invalidArgument]
    rw [if_neg hin]

/-- Settles O16: both arguments in range name a word and the brightness it is packed with; one out of range is enough to
be refused. -/
theorem setColorBResult : Obligations.SetColorBResult := by
  intro index color brightness rest s hs
  refine ⟨?_, decodeEncode (.setColorB index color brightness) rest rfl⟩
  rw [exec_of_ready hs (by nofun), bodyOf]
  by_cases hindex : 0 ≤ index.toInt ∧ index.toInt < 8
  · obtain ⟨i, hi, hreadIndex⟩ := indexArg_of_inRange hindex
    by_cases hbright : 0 ≤ brightness.toInt ∧ brightness.toInt ≤ 31
    · obtain ⟨br, rfl, hreadBright⟩ := brightnessArg_of_inRange hbright
      simp only [hreadIndex, hreadBright, respond_ok, writeColor_eq_setIfInBounds]
      rw [if_pos ⟨hindex, hbright⟩, hi, pack]
    · simp only [hreadIndex, brightnessArg_of_outOfRange hbright, respond_invalidArgument]
      rw [if_neg (not_and_of_not_right _ hbright)]
  · simp only [indexArg_of_outOfRange hindex, respond_invalidArgument]
    rw [if_neg (not_and_of_not_left _ hindex)]

/-- Settles O21: the formula is the definition, and its three fields do not overlap. -/
theorem packLayout : Obligations.PackLayout := fun br c => ⟨rfl, pack_eq_append br c⟩

end Sys2Proof.Proofs
end

section
/-! PROOFS. The protocol encoder's statements (41_protocol_encoder.md R140 to R182): the event at every position of a show,
the sequencer's step by the answer it gets, what the strip displays after it, and whole runs of SHOW. The facts they share
come first: what a step from BUSY and one outside it leave alone, and each part of an answered event's outcome. -/

namespace Sys2Proof.Machine

open Sys2Proof.Statements

/-! ### The trace of a show, position by position -/

/-- Lists of one length in a row: position `j` of the `i`-th of them. -/
theorem getElem?_flatMap_of_length_eq {α β : Type} {f : α → List β} {n : Nat} (hf : ∀ a, (f a).length = n)
    {l : List α} {i j : Nat} {a : α} (ha : l[i]? = some a) (hj : j < n) :
    (l.flatMap f)[n * i + j]? = (f a)[j]? := by
  induction l generalizing i with
  | nil => cases ha
  | cons b l ih =>
    rw [List.flatMap_cons]
    cases i with
    | zero =>
      obtain rfl : b = a := Option.some.inj ha
      rw [Nat.mul_zero, Nat.zero_add, List.getElem?_append_left (by rwa [hf])]
    | succ i =>
      have hpos : n * (i + 1) + j = (f b).length + (n * i + j) := by rw [hf]; ring
      rw [hpos, List.getElem?_append_right (Nat.le_add_right _ _), Nat.add_sub_cancel_left]
      exact ih ha

/-- A bit is three events (R141). -/
theorem writeBit_length (v : Bool) : (writeBit v).length = 3 := rfl

/-- A byte is eight bits (R141). -/
theorem bitsMsbFirst_length (b : Byte) : (bitsMsbFirst b).length = 8 := rfl

/-- A frame is four bytes (R144). -/
theorem frameBytes_length (w : Word) : (frameBytes w).length = 4 := rfl

/-- The bit of a byte that is sent at each place, bit 7 first (R53, R141). -/
theorem bitsMsbFirst_getElem? (b : Byte) (j : Fin 8) : (bitsMsbFirst b)[7 - j.val]? = some (b.getLsbD j.val) := by
  have hplace : ([7, 6, 5, 4, 3, 2, 1, 0] : List Nat)[7 - j.val]? = some j.val := by revert j; decide
  rw [bitsMsbFirst, List.getElem?_map, hplace, Option.map_some]

/-- Byte `q` of the frame at wire position `p` stands behind the preamble and the frames before it (R147). -/
theorem showBytes_getElem? (color : Vector Word Config.pN) (d : Direction) (p : Fin Config.pN) (q : Fin 4) :
    (showBytes color d)[4 + (4 * p.val + q.val)]? = some ((frameBytes color[src p d]).getD q.val 0) := by
  have hword : (wireWords color d)[p.val]? = some color[src p d] := by simp [wireWords]
  have hbyte : (frameBytes color[src p d])[q.val]? = some ((frameBytes color[src p d]).getD q.val 0) := by
    rw [List.getD_eq_getElem?_getD, List.getElem?_eq_getElem q.isLt, Option.getD_some]
  have hlen : preambleBytes.length = 4 := rfl
  rw [showBytes, List.getElem?_append_right (by omega), hlen, Nat.add_sub_cancel_left,
    getElem?_flatMap_of_length_eq frameBytes_length hword q.isLt, hbyte]

/-- The bits of the preamble come first (R82, R147). -/
theorem showBits_preamble (color : Vector Word Config.pN) (d : Direction) (n : Fin 32) :
    ((showBytes color d).flatMap bitsMsbFirst)[n.val]? = some false := by
  rw [showBytes, List.flatMap_append, preambleBytes_bits, List.getElem?_append_left (by simp),
    List.getElem?_replicate_of_lt n.isLt]

/-- Bit `j` of byte `q` of the frame at wire position `p` (R83, R147). -/
theorem showBits_frame (color : Vector Word Config.pN) (d : Direction) (p : Fin Config.pN) (q : Fin 4) (j : Fin 8) :
    ((showBytes color d).flatMap bitsMsbFirst)[8 * (4 + (4 * p.val + q.val)) + (7 - j.val)]? =
      some (((frameBytes color[src p d]).getD q.val 0).getLsbD j.val) := by
  rw [getElem?_flatMap_of_length_eq bitsMsbFirst_length (showBytes_getElem? color d p q) (by omega), bitsMsbFirst_getElem?]

/-- The three events of bit `i` of a show: its data event, then a clock pulse (R141, R146). -/
theorem showTrace_bit {color : Vector Word Config.pN} {d : Direction} {i : Nat} {v : Bool}
    (hbit : ((showBytes color d).flatMap bitsMsbFirst)[i]? = some v) :
    (showTrace color d)[3 * i]? = some (.setData v) ∧ (showTrace color d)[3 * i + 1]? = some (.setClock true) ∧
      (showTrace color d)[3 * i + 2]? = some (.setClock false) := by
  have hevent : ∀ j : Fin 3, (showTrace color d)[3 * i + j.val]? = (writeBit v)[j.val]? := by
    intro j
    have hbits := getElem?_flatMap_of_length_eq writeBit_length hbit j.isLt
    obtain ⟨hlt, -⟩ := List.getElem?_eq_some_iff.mp (hbits.trans (List.getElem?_eq_getElem j.isLt))
    rw [showTrace_eq_writeBits, List.getElem?_append_left hlt, hbits]
  exact ⟨hevent 0, hevent 1, hevent 2⟩

/-- The events of a show from position 864 on are those of the latch (R146). -/
theorem showTrace_latch (color : Vector Word Config.pN) (d : Direction) (i : Nat) :
    (showTrace color d)[864 + i]? = latch[i]? := by
  have hlen : (preamble ++ (wireWords color d).flatMap frame).length = 864 := by
    have htotal := showTrace_length color d
    rw [showTrace, List.length_append, latch_length] at htotal
    omega
  rw [showTrace, List.getElem?_append_right (by omega), hlen, Nat.add_sub_cancel_left]

/-- Pulse `m` of the latch (R145). -/
theorem latch_pulse (m : Fin 36) :
    latch[1 + 2 * m.val]? = some (.setClock true) ∧ latch[2 + 2 * m.val]? = some (.setClock false) := by
  revert m; decide

/-! ### What a step from BUSY does, and what one outside it leaves alone -/

/-- In BUSY, with no whole command on the port, a step is the sequencer's (R149; log entry 4). -/
theorem step_busy_unpresented {s : State} (hf : s.fault = none) (hb : s.life = .busy)
    (hd : decode s.port = .incomplete) : step s = seqStep s := by
  simp [step, nextMove, presented, hf, hb, hd]

/-- A step from BUSY: the sequencer's step or none, on a state that differs in the port and the draw counter at most, and
then a fault or none (R149, R214, R216). -/
theorem step_of_busy {s t : State} (hb : s.life = .busy) (h : step s = .next t) :
    ∃ rest n u, (u = { s with port := rest, draws := n } ∨ seqStep { s with port := rest, draws := n } = .next u) ∧
      t = { u with fault := t.fault } := by
  obtain ⟨-, ⟨hnot, -⟩ | ⟨-, hseq⟩ | ⟨hnot, -⟩ | ⟨-, -, -, rest, u, -, rfl, hu⟩⟩ := step_cases h
  · exact absurd hb hnot
  · exact ⟨s.port, s.draws, t, .inr hseq, rfl⟩
  · exact absurd hb hnot
  · exact ⟨rest, s.draws + 1, u, hu, rfl⟩

/-- A command's own effect emits no event and leaves the strip alone (R63, R182). -/
theorem bodyOf_frame (i : Instr) (s : State) :
    (bodyOf i s).history = s.history ∧ (bodyOf i s).display = s.display := by
  obtain ⟨g, r, u, hbody, -, -, -, hu⟩ | ⟨c, u, hbody, hu⟩ := bodyOf_cases i s
  · rw [hbody]
    obtain rfl | ⟨br, rfl⟩ | ⟨d, rfl⟩ | ⟨j, br, e, rfl⟩ := hu
    all_goals exact ⟨rfl, rfl⟩
  · rw [hbody]
    obtain rfl | ⟨-, es, rfl⟩ | ⟨-, rfl⟩ := hu
    all_goals exact ⟨rfl, rfl⟩

/-- A command emits no event and leaves the strip alone (R63, R182). -/
theorem execCommand_frame {c : Command} {s t : State} (h : execCommand c s = .next t) :
    t.history = s.history ∧ t.display = s.display := by
  obtain ⟨-, ⟨i, -, -, rfl⟩ | ⟨-, -, rfl⟩ | ⟨r, rfl⟩⟩ := execCommand_next h
  · exact bodyOf_frame i s
  · exact ⟨rfl, rfl⟩
  · exact ⟨rfl, rfl⟩

/-- A step outside BUSY emits no event and leaves the strip alone (R63, R182). -/
theorem step_of_not_busy_frame {s t : State} (hb : s.life ≠ .busy) (h : step s = .next t) :
    t.history = s.history ∧ t.display = s.display := by
  obtain ⟨-, ⟨-, rfl⟩ | ⟨hbusy, -⟩ | ⟨-, c, rest, -, hexec⟩ | ⟨hbusy, -⟩⟩ := step_cases h
  · exact ⟨rfl, rfl⟩
  · exact absurd hbusy hb
  · exact execCommand_frame (s := { s with port := rest }) hexec
  · exact absurd hbusy hb

/-- A sequencer step adds the entry of the event it emits, or none where no answer comes (R176, R178). -/
theorem seqStep_history {s t : State} (h : seqStep s = .next t) :
    ∃ new : List (Event × Answer), t.history = s.history ++ new ∧ new.length ≤ 1 := by
  obtain ⟨ev, -, ⟨r, -, rfl⟩ | ⟨-, rfl⟩⟩ := seqStep_next h
  · exact ⟨[(ev, r)], emit_history ev r _, le_rfl⟩
  · exact ⟨[], (List.append_nil _).symm, Nat.zero_le _⟩

/-! ### The lines and LIFE after an answered event, as the statements write them -/

/-- The lines after an event answered `Ok`, as the statements write them (R174). -/
theorem linesOk_eq (data clk : Level) (ev : Event) :
    dataOutOk data ev = dataAfterOk data ev ∧ clkOutOk clk ev = clkAfterOk clk ev := by
  obtain v | v | (_ | _) | (_ | _) := ev
  all_goals exact ⟨rfl, rfl⟩

/-- The lines after an event answered `Fail`, as the statements write them (R177). -/
theorem applyFail_lines_eq (ev : Event) (s : State) :
    (applyFail ev s).dataOut = dataAfterFail s.dataOut ev ∧ (applyFail ev s).clkOut = clkAfterFail s.clkOut ev := by
  obtain v | v | (_ | _) | (_ | _) := ev
  all_goals exact ⟨rfl, rfl⟩

/-- LIFE after a list that succeeded, as the statements write it (R150, R194, R196). -/
theorem lifeAfterOk_eq (c : SeqCmd) : lifeAfterOk c = lifeOk c := by cases c <;> rfl

/-- LIFE after a list that failed, as the statements write it (R151, R194, R196). -/
theorem lifeAfterFail_eq (c : SeqCmd) : lifeAfterFail c = lifeFail c := by cases c <;> rfl

/-! ### What the sequencer's step does to the answers, the recorded CLK_OUT and the draw counter -/

/-- Emitting an event uses up no answer by itself, since `takeAnswer` did (log entry 6), and records CLK_OUT at the first
event of a show, whatever its answer is (log entry 10). -/
theorem emit_answers_clkAtShow (ev : Event) (r : Answer) (s : State) :
    (emit ev r s).answers = s.answers ∧ (emit ev r s).clkAtShow = (markShowStart s).clkAtShow := by
  cases r with
  | ok =>
    obtain ⟨_, _, hemit⟩ := emit_ok_eq ev s
    rw [hemit]
    split <;> exact ⟨rfl, rfl⟩
  | fail =>
    obtain ⟨_, _, hemit⟩ := emit_fail_eq ev s
    rw [hemit]
    exact ⟨rfl, rfl⟩

/-- Where no answer is listed and the transport is not silent, the answer is the oracle's draw (R173; log entry 6). -/
theorem nextAnswer_drawn {s : State} (ha : s.answers = []) (hq : s.transportSilent = false) :
    nextAnswer s = Config.transportAnswer s.draws := by
  simp [nextAnswer, ha, hq]

/-- The end of a list draws no free value or one (R182). -/
theorem le_latchDisplay_draws (s : State) : s.draws ≤ (latchDisplay s).draws := by
  unfold latchDisplay
  split
  · exact le_rfl
  · split
    · exact le_rfl
    · exact Nat.le_succ _

/-- A failed event draws no free value or one (R182). -/
theorem le_disturbDisplay_draws (b : Bool) (s : State) : s.draws ≤ (disturbDisplay b s).draws := by
  cases b
  · exact le_rfl
  · exact Nat.le_succ _

/-- The last event of a list, answered `Ok`, ends the list (R149). -/
theorem emit_ok_last {ev : Event} {s : State} (hlast : s.seqPos + 1 = s.seqTrace.length) :
    emit ev .ok s = finish (applyOk ev { record ev .ok (markShowStart s) with seqPos := s.seqPos + 1 }) :=
  if_pos hlast

/-- An event before the last, answered `Ok`, moves the list on (R149). -/
theorem emit_ok_not_last {ev : Event} {s : State} (hmore : s.seqPos + 1 ≠ s.seqTrace.length) :
    emit ev .ok s = applyOk ev { record ev .ok (markShowStart s) with seqPos := s.seqPos + 1 } :=
  if_neg hmore

/-- What every `Ok` does, at the end of the list or before it (R149, R174). -/
theorem emit_ok_registers (ev : Event) (s : State) :
    (emit ev .ok s).seqPos = s.seqPos + 1 ∧ (emit ev .ok s).dataOut = dataOutOk s.dataOut ev ∧
      (emit ev .ok s).clkOut = clkOutOk s.clkOut ev := by
  obtain ⟨_, _, hemit⟩ := emit_ok_eq ev s
  rw [hemit]
  split <;> exact ⟨rfl, rfl, rfl⟩

/-- The end of a list answers OK (R150, R194, R196). -/
theorem emit_ok_last_response {ev : Event} {s : State} (hlast : s.seqPos + 1 = s.seqTrace.length) :
    (emit ev .ok s).life = lifeAfterOk s.seqCmd ∧ (emit ev .ok s).resp = okResp ∧ (emit ev .ok s).respWords = [0] := by
  obtain ⟨_, _, hemit⟩ := emit_ok_eq ev s
  rw [hemit, if_pos hlast]
  exact ⟨rfl, rfl, responseWords_ok 0⟩

/-- Before the end of a list there is no response, and the strip shows nothing new (R149, R259). -/
theorem emit_ok_not_last_frame {ev : Event} {s : State} (hmore : s.seqPos + 1 ≠ s.seqTrace.length) :
    (emit ev .ok s).life = s.life ∧ (emit ev .ok s).resp = s.resp ∧ (emit ev .ok s).respWords = s.respWords ∧
      (emit ev .ok s).display = s.display ∧ (emit ev .ok s).draws = s.draws := by
  rw [emit_ok_not_last hmore]
  exact ⟨rfl, rfl, rfl, rfl, rfl⟩

/-- What every `Fail` does (R149, R151, R177). -/
theorem emit_fail_registers (ev : Event) (s : State) :
    (emit ev .fail s).seqPos = s.seqPos ∧ (emit ev .fail s).life = lifeAfterFail s.seqCmd ∧
      (emit ev .fail s).resp = failureResp s.seqPos ev ∧ (emit ev .fail s).dataOut = (applyFail ev s).dataOut ∧
      (emit ev .fail s).clkOut = (applyFail ev s).clkOut := by
  obtain ⟨_, _, hemit⟩ := emit_fail_eq ev s
  rw [hemit]
  exact ⟨rfl, rfl, rfl, rfl, rfl⟩

/-- Taking the answer to an event keeps what a sequencer step keeps (log entry 6). -/
theorem takeAnswer_same (s : State) : SameCommandState s (takeAnswer s) := by constructor <;> rfl

/-- Taking an answer from the oracle is a draw (log entry 6). -/
theorem le_takeAnswer_draws (s : State) : s.draws ≤ (takeAnswer s).draws := by
  rw [takeAnswer_draws]
  split
  · exact Nat.le_succ _
  · exact le_rfl

/-- The draw counter never goes back. -/
theorem le_emit_draws (ev : Event) (r : Answer) (s : State) : s.draws ≤ (emit ev r s).draws := by
  cases r with
  | ok =>
    by_cases hlast : s.seqPos + 1 = s.seqTrace.length
    · rw [emit_ok_last hlast, finish, respond_draws]
      exact le_latchDisplay_draws (applyOk ev { record ev .ok (markShowStart s) with seqPos := s.seqPos + 1 })
    · obtain ⟨-, -, -, -, hdraws⟩ := emit_ok_not_last_frame (ev := ev) hlast
      rw [hdraws]
  | fail =>
    exact le_disturbDisplay_draws (inShow s) (applyFail ev (record ev .fail (markShowStart s)))

/-! ### What the strip displays after an answered event -/

/-- The lists with a show, and where it starts: after INIT's two Configure events, else at once (R193, R195). -/
theorem showStart_eq_some_iff (c : SeqCmd) (p : Nat) :
    showStart c = some p ↔ c ≠ .release ∧ p = if c = .init then 2 else 0 := by
  cases c <;> simp [showStart, eq_comm]

/-- The event at SEQ_POS belongs to a show (R193, R195). -/
theorem inShow_iff (s : State) :
    inShow s = true ↔ s.seqCmd ≠ .release ∧ (if s.seqCmd = .init then 2 else 0) ≤ s.seqPos := by
  unfold inShow
  cases s.seqCmd <;> simp [showStart]

/-- The last event of a list with a show belongs to the show (R146, R193). -/
theorem inShow_of_last {s : State} (htrace : s.seqTrace = eventList s.seqCmd s.color s.direction)
    (hlast : s.seqPos + 1 = s.seqTrace.length) (hshow : s.seqCmd ≠ .release) : inShow s = true := by
  refine (inShow_iff s).mpr ⟨hshow, ?_⟩
  rw [htrace, eventList_length] at hlast
  split_ifs with hinit
  · rw [hinit] at hlast
    simp only at hlast
    omega
  · exact Nat.zero_le _

/-- The event at SEQ_POS ends a show or aborts it: it belongs to one, and it is the last and answered `Ok`, or answered
`Fail` (R150, R151). -/
def EndsShow (r : Answer) (s : State) : Prop :=
  inShow s = true ∧ (r = .ok ∧ s.seqPos + 1 = s.seqTrace.length ∨ r = .fail)

/-- The end of a show that did not begin with CLK_OUT = 0 leaves every LED with a draw (R182). -/
theorem latchDisplay_display_of_not_low {s : State} {p : Nat} (hshow : showStart s.seqCmd = some p)
    (hclk : s.clkAtShow ≠ .low) : (latchDisplay s).display = (drawDisplay s).display := by
  simp only [latchDisplay, hshow, hclk, if_false]

/-- The end of a list with no show keeps what the strip displays (R195). -/
theorem latchDisplay_of_no_show {s : State} (hshow : showStart s.seqCmd = none) : latchDisplay s = s := by
  simp only [latchDisplay, hshow]

/-- A show that fails, or that did not begin with CLK_OUT = 0, leaves every LED with a draw (R182; log entry 8). -/
theorem emit_display_drawn {ev : Event} {r : Answer} {s : State} (hends : EndsShow r s)
    (hclk : r = .ok → (markShowStart s).clkAtShow ≠ .low) : (emit ev r s).display = (drawDisplay s).display := by
  obtain ⟨hshow, ⟨rfl, hlast⟩ | rfl⟩ := hends
  · rw [emit_ok_last hlast]
    obtain ⟨hcmd, -⟩ := (inShow_iff s).mp hshow
    exact latchDisplay_display_of_not_low ((showStart_eq_some_iff s.seqCmd _).mpr ⟨hcmd, rfl⟩) (hclk rfl)
  · have hemit : (emit ev .fail s).display =
        (disturbDisplay (inShow s) (applyFail ev (record ev .fail (markShowStart s)))).display := rfl
    rw [hemit, hshow]
    rfl

/-- An event that neither ends nor aborts a show keeps what the strip displays (R182, R195, R259; log entry 9). -/
theorem emit_display_kept {ev : Event} {r : Answer} {s : State}
    (htrace : s.seqTrace = eventList s.seqCmd s.color s.direction) (hends : ¬EndsShow r s) :
    (emit ev r s).display = s.display := by
  cases r with
  | ok =>
    by_cases hlast : s.seqPos + 1 = s.seqTrace.length
    · have hrelease : s.seqCmd = .release := by
        by_contra hshow
        exact hends ⟨inShow_of_last htrace hlast hshow, .inl ⟨rfl, hlast⟩⟩
      have hnone : showStart s.seqCmd = none := by rw [hrelease]; rfl
      have hlatch := latchDisplay_of_no_show
        (s := applyOk ev { record ev .ok (markShowStart s) with seqPos := s.seqPos + 1 }) hnone
      rw [emit_ok_last hlast, finish, hlatch]
      rfl
    · obtain ⟨-, -, -, hdisp, -⟩ := emit_ok_not_last_frame (ev := ev) hlast
      exact hdisp
  | fail =>
    refine emit_fail_display ?_
    by_contra hshow
    exact hends ⟨by simpa using hshow, .inr rfl⟩

/-- A sequencer step that leaves the block BUSY keeps what the strip displays (R259; log entry 9). -/
theorem seqStep_display_of_busy {s t : State} (h : seqStep s = .next t) (hb : t.life = .busy) :
    t.display = s.display := by
  obtain ⟨ev, -, ⟨r, -, rfl⟩ | ⟨-, rfl⟩⟩ := seqStep_next h
  · obtain ⟨-, rfl, -, hmore⟩ := emit_busy hb
    obtain ⟨-, -, -, hdisp, -⟩ := emit_ok_not_last_frame (ev := ev) hmore
    exact hdisp
  · rfl

/-! ### The step that takes a SHOW -/

/-- SHOW's word on the port, with whatever follows it (R73). -/
theorem decode_showCmd (rest : List Word) : decode (0x80000000 :: rest) = .instr .showCmd rest :=
  decode_fixedHeader (op := 0x8) (args := []) rest (by decide) rfl

/-- In READY a SHOW starts its list (R140). -/
theorem exec_showCmd_of_ready {s : State} (hs : Ready s) : exec .showCmd s = .next (startList .showCmd s) :=
  exec_of_ready hs (by nofun)

/-- The step that takes a SHOW in READY (R61, R140). -/
theorem step_showCmd {s : State} {rest : List Word} (hs : Ready s) (hp : s.port = 0x80000000 :: rest) :
    step s = .next (startList .showCmd { s with port := rest }) := by
  obtain ⟨hf, hl⟩ := hs
  rw [step_presented hf (by simp [hl]) (hp ▸ decode_showCmd rest)]
  exact exec_showCmd_of_ready (s := { s with port := rest }) ⟨hf, hl⟩

/-- Response word 0 of a transport failure, for a FAIL_POS within R28's bound (R79). -/
theorem statusWord_failureResp {k : Nat} (ev : Event) (hk : k ≤ 938) :
    statusWord (failureResp k ev) = failureWord k := by
  apply BitVec.eq_of_toNat_eq
  rw [toNat_statusWord, toNat_failPosField hk, if_pos rfl, BitVec.toNat_ofNat, Nat.mod_eq_of_lt (by omega)]
  rfl

end Sys2Proof.Machine

namespace Sys2Proof.Proofs

open Sys2Proof.Machine Sys2Proof.Statements

/-- Settles O32: each position is one of the three events of a bit (`showTrace_bit`) or an event of the latch. -/
theorem showTracePositions : Obligations.ShowTracePositions := by
  intro color d
  refine ⟨showTrace_length color d, fun n => showTrace_bit (showBits_preamble color d n), fun p q j => ?_,
    showTrace_latch color d 0, fun m => ?_⟩
  · have hpos : 96 + 96 * p.val + 24 * q.val + 3 * (7 - j.val) = 3 * (8 * (4 + (4 * p.val + q.val)) + (7 - j.val)) := by
      ring
    rw [hpos]
    exact showTrace_bit (showBits_frame color d p q j)
  · obtain ⟨hrise, hfall⟩ := latch_pulse m
    rw [← hrise, ← hfall, ← showTrace_latch color d, ← showTrace_latch color d, ← Nat.add_assoc, ← Nat.add_assoc]
    exact ⟨rfl, rfl⟩

/-- Settles O40: each field of the emitted event's outcome, at the end of the list and before it. -/
theorem okAnswerStep : Obligations.OkAnswerStep := by
  intro s ev hev hans
  obtain ⟨hpos, hdata, hclk⟩ := emit_ok_registers ev (takeAnswer s)
  have hsame := (takeAnswer_same s).trans (emit_same ev .ok (takeAnswer s))
  obtain ⟨hanswers, -⟩ := emit_answers_clkAtShow ev .ok (takeAnswer s)
  obtain ⟨hdataOk, hclkOk⟩ := linesOk_eq s.dataOut s.clkOut ev
  refine ⟨_, seqStep_answered hev hans, emit_history ev .ok _, hpos, hanswers, hdata.trans hdataOk, hclk.trans hclkOk,
    hsame.color, hsame.brightness, hsame.direction, hsame.fault, hsame.port, hsame.hostWaits, hsame.seqTrace,
    hsame.seqCmd, ?_, ?_⟩
  · intro hlast
    rw [← lifeAfterOk_eq]
    exact emit_ok_last_response (s := takeAnswer s) hlast
  · intro hmore
    obtain ⟨hlife, hresp, hwords, -, -⟩ := emit_ok_not_last_frame (ev := ev) (s := takeAnswer s) hmore
    exact ⟨hlife, hresp, hwords⟩

/-- Settles O41: each field of the failed event's outcome. -/
theorem failAnswerStep : Obligations.FailAnswerStep := by
  intro s ev hev hans
  obtain ⟨hpos, hlife, hresp, hdata, hclk⟩ := emit_fail_registers ev (takeAnswer s)
  have hsame := (takeAnswer_same s).trans (emit_same ev .fail (takeAnswer s))
  obtain ⟨hanswers, -⟩ := emit_answers_clkAtShow ev .fail (takeAnswer s)
  obtain ⟨hdataFail, hclkFail⟩ := applyFail_lines_eq ev (takeAnswer s)
  exact ⟨_, seqStep_answered hev hans, emit_history ev .fail _, hanswers, hdata.trans hdataFail, hclk.trans hclkFail,
    hsame.color, hsame.brightness, hsame.direction, hsame.fault, hsame.port, hsame.hostWaits, hsame.seqTrace,
    hsame.seqCmd, hpos, hlife.trans (lifeAfterFail_eq s.seqCmd), hresp⟩

/-- Settles O42: a listed answer is taken as it stands, an unlisted one is the draw, and a silent transport changes
nothing, however long (`run_silent`). -/
theorem oracleAnswersFreely : Obligations.OracleAnswersFreely := by
  intro s ev hev
  refine ⟨fun a more ha => ?listed, fun ha hq => ?drawn, fun ha hq hf hb hw k => ?silent⟩
  case listed =>
    obtain ⟨hanswers, -⟩ := emit_answers_clkAtShow ev a (takeAnswer s)
    refine ⟨_, seqStep_answered hev (nextAnswer_listed ha), emit_history ev a _, ?_⟩
    rw [hanswers, takeAnswer_answers, ha, List.tail_cons]
  case drawn =>
    have hnext : nextAnswer s = Config.transportAnswer s.draws := nextAnswer_drawn ha hq
    cases hdraw : Config.transportAnswer s.draws with
    | some r =>
      obtain ⟨hanswers, -⟩ := emit_answers_clkAtShow ev r (takeAnswer s)
      refine ⟨_, seqStep_answered hev (hnext.trans hdraw), ?_, .inl ⟨r, rfl, emit_history ev r _, ?_⟩⟩
      · rw [hanswers, takeAnswer_answers, ha, List.tail_nil]
      · have hle := le_emit_draws ev r (takeAnswer s)
        rw [takeAnswer_draws, if_pos ha] at hle
        exact hle
    | none => exact ⟨_, seqStep_unanswered hev (hnext.trans hdraw), ha, .inr ⟨rfl, rfl⟩⟩
  case silent =>
    obtain ⟨hlt, -⟩ := List.getElem?_eq_some_iff.mp hev
    exact run_silent k hf hb hw hlt ha hq

/-- Settles O43: an answered event ends or aborts a show, and then its LEDs take their frames or a draw, or it does
neither and the strip keeps its display; where no answer comes, nothing changes. -/
theorem displayAfterSequencerStep : Obligations.DisplayAfterSequencerStep := by
  intro s t k hb hok hseq hk showing completed
  obtain ⟨htrace, -⟩ := hok hb
  have hshowing : inShow s = true ↔ showing := by rw [inShow_iff, ← hk]
  have hstart : showStart s.seqCmd = some s.seqPos ↔ s.seqCmd ≠ .release ∧ s.seqPos = k := by
    rw [showStart_eq_some_iff, ← hk]
  obtain ⟨ev, -, ⟨r, hans, rfl⟩ | ⟨hans, rfl⟩⟩ := seqStep_next hseq
  case inl =>
    have hclk : (emit ev r (takeAnswer s)).clkAtShow = (markShowStart s).clkAtShow :=
      (emit_answers_clkAtShow ev r (takeAnswer s)).2
    have hends : EndsShow r (takeAnswer s) ↔ showing ∧ (completed ∨ nextAnswer s = some .fail) := by
      rw [← hshowing, hans]
      simp only [completed, hans, Option.some.injEq]
      exact Iff.rfl
    rw [hclk]
    refine ⟨fun hshow hdone hlow p => ?_, fun hshow hbad => ⟨(takeAnswer s).draws, le_takeAnswer_draws s, fun p => ?_⟩,
      fun hkeep => ?_, fun ⟨hcmd, hpos, _⟩ => ?_, fun hother => ?_⟩
    · obtain ⟨hyes, hlast⟩ := hdone
      obtain rfl : r = .ok := Option.some.inj (hans.symm.trans hyes)
      have hsome := (showStart_eq_some_iff s.seqCmd _).mpr ⟨hshow.1, rfl⟩
      rw [emit_ok_last_display (s := takeAnswer s) hlast hsome hlow]
      exact shownFrames_get s.color s.direction p
    · have hshowEnds := hends.mpr ⟨hshow, hbad.imp And.left id⟩
      have hclk' : r = .ok → (markShowStart s).clkAtShow ≠ .low := by
        rintro rfl
        obtain ⟨-, hne⟩ | hfail := hbad
        · exact hne
        · cases hans.symm.trans hfail
      rw [emit_display_drawn hshowEnds hclk', drawDisplay_display_get]
    · exact emit_display_kept (s := takeAnswer s) htrace fun h => hkeep (hends.mp h)
    · rw [markShowStart_clkAtShow, if_pos (hstart.mpr ⟨hcmd, hpos⟩)]
    · rw [markShowStart_clkAtShow, if_neg]
      intro hfirst
      obtain ⟨hcmd, hpos⟩ := hstart.mp hfirst
      exact hother ⟨hcmd, hpos, by simp [hans]⟩
  case inr =>
    have hno : ∀ a, nextAnswer s ≠ some a := by simp [hans]
    refine ⟨fun _ hdone => absurd hdone.1 (hno _), fun _ hbad => ?_, fun _ => rfl, fun h => absurd hans h.2.2,
      fun _ => rfl⟩
    exact hbad.elim (fun h => absurd h.1.1 (hno _)) fun h => absurd h (hno _)

/-- Settles O44: the sequencer's step keeps these registers, and the race of R216 adds a fault to it at most. -/
theorem busyKeepsRegisters : Obligations.BusyKeepsRegisters := by
  intro s t hb h
  obtain ⟨rest, n, u, hu, ht⟩ := step_of_busy hb h
  rw [ht]
  obtain rfl | hseq := hu
  · exact ⟨rfl, rfl, rfl⟩
  · have hsame := seqStep_same hseq
    exact ⟨hsame.color, hsame.brightness, hsame.direction⟩

/-- Settles O45: in BUSY the sequencer's step adds one entry or none, and outside BUSY no step adds any. -/
theorem historyOnlyGrows : Obligations.HistoryOnlyGrows := by
  intro s t h
  by_cases hb : s.life = .busy
  · have hnew : ∃ new, t.history = s.history ++ new ∧ new.length ≤ 1 := by
      obtain ⟨rest, n, u, hu, ht⟩ := step_of_busy hb h
      rw [ht]
      obtain rfl | hseq := hu
      · exact ⟨[], (List.append_nil _).symm, Nat.zero_le _⟩
      · obtain ⟨new, hnew⟩ := seqStep_history hseq
        exact ⟨new, hnew⟩
    obtain ⟨new, hhist, hlen⟩ := hnew
    exact ⟨new, hhist, hlen, fun hnot => absurd hb hnot⟩
  · obtain ⟨hhist, -⟩ := step_of_not_busy_frame hb h
    exact ⟨[], by rw [hhist, List.append_nil], Nat.zero_le _, fun _ => rfl⟩

/-- Settles O46: outside BUSY no step touches the strip, and in BUSY none that leaves the block BUSY. -/
theorem displayKeptBetweenShows : Obligations.DisplayKeptBetweenShows := by
  intro s t hlife h
  by_cases hb : s.life = .busy
  · have htb : t.life = .busy := hlife.resolve_left (not_not_intro hb)
    obtain ⟨rest, n, u, hu, ht⟩ := step_of_busy hb h
    rw [ht] at htb ⊢
    obtain rfl | hseq := hu
    · rfl
    · have hdisp := seqStep_display_of_busy hseq htb
      exact hdisp
  · exact (step_of_not_busy_frame hb h).2

/-- Settles O48: one step starts the show (`step_showCmd`), 937 answers finish it (`run_list_ok`). -/
theorem showRunsToCompletion : Obligations.ShowRunsToCompletion := by
  intro s rest more hs hw hport hans
  have hstep := step_showCmd hs hport
  set u := startList .showCmd { s with port := rest }
  have htrace : u.seqTrace = showTrace s.color s.direction := rfl
  have htotal : u.seqTrace.length = 937 := showTrace_length _ _
  obtain ⟨t, hrun, hdone, hmore⟩ :=
    run_list_ok (s := u) (more := more) hs.1 rfl hw rfl (List.ne_nil_of_length_pos (by omega))
      (by rw [htotal]; exact hans)
  refine ⟨t, ?_, ⟨hdone.same.fault.trans hs.1, hdone.life⟩, hdone.resp, hdone.respWords, hdone.same.color,
    hdone.same.brightness, hdone.same.direction, ?_, ?_, hdone.history, hdone.same.port, hmore,
    hdone.same.hostWaits.trans hw, fun hlow p => ?_⟩
  · rw [run_succ hstep, ← htotal, hrun]
  · rw [hdone.dataOut, htrace, dataOutAfter_showTrace]
  · rw [hdone.clkOut, htrace, clkOutAfter_showTrace]
  · rw [hdone.display 0 rfl (by omega) hlow]
    exact shownFrames_get s.color s.direction p

/-- Settles O49: one step starts the show (`step_showCmd`), k + 1 answers abort it (`run_list_fail`). -/
theorem showAbortsAtFailure : Obligations.ShowAbortsAtFailure := by
  intro s rest more k ev hs hw hport hev hans
  have hstep := step_showCmd hs hport
  set u := startList .showCmd { s with port := rest }
  obtain ⟨hlt, -⟩ := List.getElem?_eq_some_iff.mp hev
  rw [showTrace_length] at hlt
  obtain ⟨t, hrun, hdone, hmore⟩ := run_list_fail (s := u) hs.1 rfl hw rfl hev hans
  refine ⟨t, (run_succ hstep).trans hrun, ⟨hdone.same.fault.trans hs.1, hdone.life⟩, hdone.resp, ?_, hdone.same.color,
    hdone.same.brightness, hdone.same.direction, hdone.history, hdone.same.port, hmore, fun hline => ?_, fun hline => ?_⟩
  · rw [hdone.respWords, statusWord_failureResp ev (by omega)]
  · rw [hdone.dataOut, if_pos hline]
  · rw [hdone.clkOut, if_pos hline]

/-- Settles O5: nothing is presented, because the host waits or because the port holds no whole command. -/
theorem busyStepIsSequencerStep : Obligations.BusyStepIsSequencerStep := fun _ hf hb hnone =>
  hnone.elim (step_busy_waiting hf hb) (step_busy_unpresented hf hb)

/-- Settles O18: the gate admits SHOW, and the state with its list started is the state named. -/
theorem showResult : Obligations.ShowResult := fun _ hs => exec_showCmd_of_ready hs

/-- Settles O35: the mapping is its own inverse, so the one source of `i` is the image of `i`. -/
theorem directionMapping : Obligations.DirectionMapping := by
  refine ⟨src_normal, by decide, fun d i => ⟨src i d, src_src i d, fun q hq => ?_⟩⟩
  rw [← hq, src_src]

/-- Settles O38: the trace SHOW starts is made of COLOR and DIRECTION. -/
theorem traceDependsOnBufferAndDirection : Obligations.TraceDependsOnBufferAndDirection := by
  intro s t hs ht hcolor hdir
  refine ⟨_, _, exec_showCmd_of_ready hs, exec_showCmd_of_ready ht, ?_⟩
  rw [startList_seqTrace, startList_seqTrace, hcolor, hdir]

end Sys2Proof.Proofs
end

section
/-! PROOFS. The lifecycle commands' statements (42_lifecycle.md R192, R194 to R196). INIT's step and its list stand with the
scope's statements above; what is missing comes first: the step that takes a RELEASE, and what a list with no show leaves on
the strip. -/

namespace Sys2Proof.Machine

open Sys2Proof.Statements

/-! ### The step that takes a RELEASE -/

/-- RELEASE's word on the port, with whatever follows it (R73). -/
theorem decode_release (rest : List Word) : decode (0x90000000 :: rest) = .instr .release rest :=
  decode_fixedHeader (op := 0x9) (args := []) rest (by decide) rfl

/-- In READY a RELEASE starts its list (R195). -/
theorem exec_release_of_ready {s : State} (hs : Ready s) : exec .release s = .next (startList .release s) :=
  exec_of_ready hs (by nofun)

/-- The step that takes a RELEASE in READY (R61, R195). -/
theorem step_release {s : State} {rest : List Word} (hs : Ready s) (hp : s.port = 0x90000000 :: rest) :
    step s = .next (startList .release { s with port := rest }) := by
  obtain ⟨hf, hl⟩ := hs
  rw [step_presented hf (by simp [hl]) (hp ▸ decode_release rest)]
  exact exec_release_of_ready (s := { s with port := rest }) ⟨hf, hl⟩

/-! ### What a list with no show leaves on the strip -/

/-- The end of a list with no show, with its response, keeps what the strip displays (R195). -/
theorem finish_display_of_no_show {s : State} (hshow : showStart s.seqCmd = none) :
    (finish s).display = s.display := by
  rw [finish, latchDisplay_of_no_show hshow]
  rfl

/-- An event of a list with no show keeps what the strip displays, whatever its answer (R195; log entry 9). -/
theorem emit_display_of_no_show {ev : Event} {r : Answer} {s : State} (hshow : showStart s.seqCmd = none) :
    (emit ev r s).display = s.display := by
  cases r with
  | ok =>
    by_cases hlast : s.seqPos + 1 = s.seqTrace.length
    · rw [emit_ok_last hlast]
      exact finish_display_of_no_show hshow
    · obtain ⟨-, -, -, hdisp, -⟩ := emit_ok_not_last_frame (ev := ev) hlast
      exact hdisp
  | fail => exact emit_fail_display (by rw [inShow, hshow])

/-- A whole list with no show, each event answered `Ok`, keeps what the strip displays (R195, R196). -/
theorem run_list_display_of_no_show {s t : State} {more : List Answer} (hf : s.fault = none) (hb : s.life = .busy)
    (hw : s.hostWaits = true) (hpos : s.seqPos = 0) (hshow : showStart s.seqCmd = none)
    (ha : s.answers = List.replicate s.seqTrace.length .ok ++ more)
    (hrun : core.run s.seqTrace.length s = .next t) : t.display = s.display := by
  cases hlen : s.seqTrace.length with
  | zero =>
    rw [hlen] at hrun
    cases hrun
    rfl
  | succ k =>
    rw [hlen, List.replicate_succ', List.append_assoc] at ha
    obtain ⟨(u : State), hrun', hsame, hbusy, hupos, hans, -, -, -, -, -, -, -, hdisp⟩ := run_ok hf hb hw (by omega) ha
    have hlt : u.seqPos < u.seqTrace.length := by rw [hupos, hsame.seqTrace]; omega
    have hstep : step u = .next (emit u.seqTrace[u.seqPos] .ok (takeAnswer u)) := by
      rw [step_busy_waiting (hsame.fault.trans hf) hbusy (hsame.hostWaits.trans hw),
        seqStep_answered (List.getElem?_eq_getElem hlt) (nextAnswer_listed hans)]
    rw [hlen, run_add hrun', run_succ hstep] at hrun
    cases hrun
    have hnone : showStart (takeAnswer u).seqCmd = none := by rw [takeAnswer_seqCmd, hsame.seqCmd, hshow]
    exact (emit_display_of_no_show hnone).trans hdisp

/-! ### The history of a list that a `Fail` aborts -/

/-- A list aborted at position `k` has emitted `k + 1` events, the failed one too (R149, R176). -/
theorem ListAborted.history_length {k : Nat} {ev : Event} {s t : State} (h : ListAborted k ev s t)
    (hk : k ≤ s.seqTrace.length) : t.history.length = s.history.length + k + 1 := by
  rw [h.history, List.length_append, List.length_append, List.length_map, List.length_take_of_le hk,
    List.length_singleton]

end Sys2Proof.Machine

namespace Sys2Proof.Proofs

open Sys2Proof.Machine Sys2Proof.Statements

/-- Settles O53: one step starts the list (`step_init`), k + 1 answers abort it (`run_list_fail`). The show starts at
position 2, so a failed Configure comes before it. -/
theorem initAbortsAtFailure : Obligations.InitAbortsAtFailure := by
  intro s rest more k hf hl hw hport hk hans
  have hstep := step_init hf hl hport
  set u := startList .init (setDefaults { s with port := rest })
  have htotal : u.seqTrace.length = 939 := eventList_length .init _ _
  have hlt : k < u.seqTrace.length := by omega
  have hev : u.seqTrace[k]? = some u.seqTrace[k] := List.getElem?_eq_getElem hlt
  obtain ⟨t, hrun, hdone, -⟩ := run_list_fail (s := u) hf rfl hw rfl hev hans
  refine ⟨t, u.seqTrace[k], (run_succ hstep).trans hrun, hdone.same.fault.trans hf, hdone.life, hdone.resp, ?_, hev,
    hdone.history_length hlt.le, hdone.same.port, fun hconfigure => hdone.display fun p hshow => ?_⟩
  · rw [hdone.respWords, statusWord_failureResp _ (by omega)]
  · obtain rfl : 2 = p := Option.some.inj hshow
    exact hconfigure

/-- Settles O54: one step starts the list of two events (`step_release`); it finishes (`run_list_ok`) or is aborted at its
first or second event (`run_list_fail`). The list has no show, so the strip keeps its display. -/
theorem releaseRuns : Obligations.ReleaseRuns := by
  intro s rest more hs hw hport
  have hstep := step_release hs hport
  set u := startList .release { s with port := rest }
  refine ⟨fun hans => ?bothOk, fun hans => ?firstFails, fun hans => ?secondFails⟩
  case bothOk =>
    obtain ⟨t, hrun, hdone, -⟩ :=
      run_list_ok (s := u) (more := more) hs.1 rfl hw rfl (List.cons_ne_nil _ _) hans
    exact ⟨t, (run_succ hstep).trans hrun, hdone.life, hdone.resp, hdone.dataOut, hdone.clkOut,
      run_list_display_of_no_show (s := u) hs.1 rfl hw rfl rfl hans hrun, hdone.history⟩
  case firstFails =>
    obtain ⟨t, hrun, hdone, -⟩ := run_list_fail (s := u) (k := 0) (ev := .close .data) hs.1 rfl hw rfl rfl hans
    exact ⟨t, (run_succ hstep).trans hrun, hdone.life, hdone.resp, hdone.dataOut, hdone.clkOut, hdone.display (by nofun),
      by rw [hdone.history, List.append_assoc]; rfl⟩
  case secondFails =>
    obtain ⟨t, hrun, hdone, -⟩ := run_list_fail (s := u) (k := 1) (ev := .close .clk) hs.1 rfl hw rfl rfl hans
    exact ⟨t, (run_succ hstep).trans hrun, hdone.life, hdone.resp, hdone.dataOut, hdone.clkOut, hdone.display (by nofun),
      by rw [hdone.history, List.append_assoc]; rfl⟩

/-- Settles O20: the gate admits RELEASE, and the state with its list started is the state named. -/
theorem releaseResult : Obligations.ReleaseResult := fun _ hs => exec_release_of_ready hs

end Sys2Proof.Proofs
end

section
/-! PROOFS. The exceptions chapter's statements (60_exceptions.md R213 to R220): what a set FAULT stops, which commands the
gate turns away, ILLEGAL's response, and the race of a presented command with the sequencer. -/

namespace Sys2Proof.Machine

/-! ### A set FAULT -/

/-- Once FAULT is set no step is taken (R220). -/
theorem step_halted {s : State} {r : FaultReason} (hf : s.fault = some r) : step s = .fault (.halted r) := by
  simp [step, nextMove, hf]

/-- Once FAULT is set no command does anything (R220). -/
theorem exec_halted (i : Instr) {s : State} {r : FaultReason} (hf : s.fault = some r) :
    exec i s = .fault (.halted r) := by
  rw [exec_eq_gated, gated_halted hf]

/-! ### Commands that the gate turns away -/

/-- A command that the gate turns away sets FAULT to the gate's reason and does nothing else (R215). -/
theorem exec_misuse {i : Instr} {s : State} {r : FaultReason} (hf : s.fault = none)
    (hg : gate s.life (columnOf i) = some r) : exec i s = .next (raiseFault r s) := by
  rw [exec_eq_gated, gated_misuse hf hg]

/-- Before INIT the gate turns every other command away (R214). -/
theorem gate_uninit_columnOf {i : Instr} (hi : i ≠ .init) : gate .uninit (columnOf i) = some .useBeforeInit := by
  cases i with
  | init => exact absurd rfl hi
  | _ => rfl

/-- After RELEASE the gate turns every command away but INIT; a second RELEASE has its own reason (R197, R214). -/
theorem gate_released_columnOf {i : Instr} (hrelease : i ≠ .release) (hinit : i ≠ .init) :
    gate .released (columnOf i) = some .useAfterRelease := by
  cases i with
  | release => exact absurd rfl hrelease
  | init => exact absurd rfl hinit
  | _ => rfl

/-! ### ILLEGAL's response -/

/-- ILLEGAL_COMMAND, field by field (R79, R80, R213). -/
theorem respond_illegalCommand (s : State) :
    respond .illegalCommand s = { s with resp := ⟨.illegalCommand, 0, 0, none⟩, respWords := [0x00000003] } := by
  rw [respond, answerHost, responseWords_illegal]

/-! ### What the port presents, and its race with the sequencer -/

/-- An incomplete command is no presentation (log entry 4). -/
theorem presented_of_incomplete {s : State} (hd : decode s.port = .incomplete) : presented s = none := by
  rw [presented, hd]

/-- A whole command on the port, ILLEGAL too, is presented (R75). -/
theorem presented_of_decode {s : State} {rest : List Word}
    (hd : (∃ i, decode s.port = .instr i rest) ∨ ∃ why, decode s.port = .illegal why rest) :
    ∃ c, presented s = some (c, rest) := by
  obtain ⟨i, hd⟩ | ⟨why, hd⟩ := hd
  · exact ⟨.instr i, by rw [presented, hd]⟩
  · exact ⟨.illegal, by rw [presented, hd]⟩

/-- The race faults when the sequencer goes first, whether or not it has a step (R214, R216). -/
theorem raceAfterSequencer_next (s : State) :
    ∃ u, raceAfterSequencer s = .next (raiseFault .concurrentCommand u) ∧ (u = s ∨ seqStep s = .next u) := by
  unfold raceAfterSequencer
  split
  next u hseq => exact ⟨u, rfl, .inr hseq⟩
  next => exact ⟨s, rfl, .inl rfl⟩
  next => exact ⟨s, rfl, .inl rfl⟩

/-- A command presented during BUSY faults the step, whichever of the two the order lets go first (R216; log entry 5). -/
theorem step_race {s : State} {c : Command} {rest : List Word} (hf : s.fault = none) (hb : s.life = .busy)
    (hw : s.hostWaits = false) (hp : presented s = some (c, rest)) :
    ∃ u, step s = .next (raiseFault .concurrentCommand u) ∧
      (u = { s with port := rest, draws := s.draws + 1 } ∨
        seqStep { s with port := rest, draws := s.draws + 1 } = .next u) := by
  have hmove : nextMove s =
      .race c (Config.sequencerFirst s.draws) { s with port := rest, draws := s.draws + 1 } := by
    simp [nextMove, hf, hb, hw, hp]
  simp only [step, hmove]
  split
  · exact raceAfterSequencer_next _
  · exact ⟨_, execCommand_busy c (s := { s with port := rest, draws := s.draws + 1 }) hf hb, .inl rfl⟩

end Sys2Proof.Machine

namespace Sys2Proof.Proofs

open Sys2Proof.Machine

/-- Settles O6: either order of the race faults (`step_race`), and a sequencer step before the fault keeps the port and
the registers that only commands write. -/
theorem commandDuringBusyFaults : Obligations.CommandDuringBusyFaults := by
  intro s rest hf hb hw hd
  obtain ⟨c, hp⟩ := presented_of_decode hd
  obtain ⟨u, hstep, hu⟩ := step_race hf hb hw hp
  refine ⟨_, hstep, rfl, ?_⟩
  obtain rfl | hseq := hu
  · exact ⟨rfl, rfl, rfl, rfl, .inl rfl⟩
  · have hsame := seqStep_same hseq
    exact ⟨hsame.port, hsame.color, hsame.brightness, hsame.direction, .inr ⟨u, hseq, rfl⟩⟩

/-- Settles O7: each misuse is an entry of the gate's table, and a command turned away sets FAULT alone. -/
theorem misuseSetsFault : Obligations.MisuseSetsFault := by
  intro i s hf
  refine ⟨fun hl hi => exec_misuse hf ?_, fun hl hi => exec_misuse hf ?_, fun hl => exec_misuse hf ?_,
    fun hl hi => exec_misuse hf ?_, fun hl hrelease hinit => exec_misuse hf ?_, fun hl => gated_misuse hf ?_,
    fun hl => gated_misuse hf ?_, fun hl => gated_misuse hf ?_⟩ <;> rw [hl]
  · exact gate_uninit_columnOf hi
  · rw [hi]; rfl
  · exact gate_busy _
  · rw [hi]; rfl
  · exact gate_released_columnOf hrelease hinit
  all_goals rfl

/-- Settles O8: the gate admits ILLEGAL in READY, and its own effect is the response alone. -/
theorem illegalCommandIsAnswered : Obligations.IllegalCommandIsAnswered := by
  intro s ⟨hf, hl⟩
  have hgate : gate s.life .illegal = none := by rw [hl]; rfl
  rw [execIllegal, gated_admitted hf hgate, respond_illegalCommand]

/-- Settles O9: FAULT is the first thing that a step and every command look at (R216). -/
theorem faultIsSticky : Obligations.FaultIsSticky := fun _ _ hf =>
  ⟨step_halted hf, fun i => exec_halted i hf, gated_halted hf⟩

/-- Settles O10: with nothing presented a step is the idle block's or the sequencer's, and neither writes FAULT. -/
theorem faultNeedsPresentedCommand : Obligations.FaultNeedsPresentedCommand := by
  intro s t hf h hnone
  obtain ⟨-, ⟨-, rfl⟩ | ⟨-, hseq⟩ | ⟨hb, c, rest, hp, -⟩ | ⟨-, hw, c, rest, u, hp, -⟩⟩ := step_cases h
  · exact hf
  · exact (seqStep_same hseq).fault.trans hf
  · obtain ⟨hbusy, -⟩ | hd := hnone
    · exact absurd hbusy hb
    · simp [presented_of_incomplete hd] at hp
  · obtain ⟨-, hwaits⟩ | hd := hnone
    · simp [hw] at hwaits
    · simp [presented_of_incomplete hd] at hp

end Sys2Proof.Proofs
end

section
/-! PROOFS. The reset and hazard chapter's statements (70_reset_and_hazards.md R250 to R266): the state after power-on, how
LIFE is left, the clock line inside and outside a pulse, the counts of a show's events, and the repair of the strip. -/

namespace Sys2Proof.Machine

/-! ### The clock line inside a pulse -/

/-- An `Ok` leaves the clock line high only after `SetClock(1)`, or where it was high before an event that is no falling
clock (R174). -/
theorem clkOutOk_eq_high {old : Level} {ev : Event} (h : clkOutOk old ev = .high) :
    ev = .setClock true ∨ (old = .high ∧ ev ≠ .setClock false) := by
  cases ev with
  | setData v => exact .inr ⟨h, by nofun⟩
  | setClock v =>
    cases v with
    | false => cases h
    | true => exact .inl rfl
  | configure line =>
    cases line with
    | data => exact .inr ⟨h, by nofun⟩
    | clk => cases h
  | close line =>
    cases line with
    | data => exact .inr ⟨h, by nofun⟩
    | clk => cases h

/-- A `Fail` leaves the clock line high only where it was high before an event that is no falling clock (R177). -/
theorem applyFail_clkOut_eq_high {ev : Event} {s : State} (h : (applyFail ev s).clkOut = .high) :
    s.clkOut = .high ∧ ev ≠ .setClock false := by
  rw [applyFail_clkOut] at h
  split at h
  · cases h
  next hline => exact ⟨h, fun hev => hline (hev ▸ rfl)⟩

/-- Where a high clock line means that the next event is the falling clock, an event leaves the line high only as a rising
clock answered `Ok` (R174, R177). -/
theorem emit_clkOut_eq_high {ev : Event} {r : Answer} {s : State} (hfalls : s.clkOut = .high → ev = .setClock false)
    (h : (emit ev r s).clkOut = .high) : r = .ok ∧ ev = .setClock true := by
  cases r with
  | ok =>
    obtain ⟨-, -, hclk⟩ := emit_ok_registers ev s
    obtain hrise | ⟨hhigh, hne⟩ := clkOutOk_eq_high (hclk ▸ h)
    · exact ⟨rfl, hrise⟩
    · exact absurd (hfalls hhigh) hne
  | fail =>
    obtain ⟨-, -, -, -, hclk⟩ := emit_fail_registers ev s
    obtain ⟨hhigh, hne⟩ := applyFail_clkOut_eq_high (hclk ▸ h)
    exact absurd (hfalls hhigh) hne

/-- Emitting the event at SEQ_POS of a list of closed pulses keeps the clock line high only inside a pulse: the falling clock
follows a rising one, so the list goes on (R149, R266). -/
theorem emit_clockOk {ev : Event} {s : State} (r : Answer) (hb : s.life = .busy) (hclosed : ClosedPulses s.seqTrace)
    (hev : s.seqTrace[s.seqPos]? = some ev) (hs : ClockOk s) : ClockOk (emit ev r s) := by
  intro hhigh
  have hfalls : s.clkOut = .high → ev = .setClock false := fun h => Option.some.inj (hev.symm.trans (hs h).2)
  obtain ⟨rfl, rfl⟩ := emit_clkOut_eq_high hfalls hhigh
  have hnext := hclosed s.seqPos hev
  obtain ⟨hlt, -⟩ := List.getElem?_eq_some_iff.mp hnext
  obtain ⟨hlife, -⟩ := emit_ok_not_last_frame (ev := .setClock true) hlt.ne
  obtain ⟨hpos, -⟩ := emit_ok_registers (.setClock true) s
  rw [hlife, (emit_same _ _ s).seqTrace, hpos]
  exact ⟨hb, hnext⟩

/-- A sequencer step keeps the clock line high only inside a pulse: the running list is a command's, and its pulses are
closed (R31, R266). -/
theorem seqStep_clockOk {s t : State} (hb : s.life = .busy) (hseqOk : SequencerOk s) (hs : ClockOk s)
    (h : seqStep s = .next t) : ClockOk t := by
  obtain ⟨htrace, -⟩ := hseqOk hb
  have hclosed : ClosedPulses s.seqTrace := htrace ▸ closedPulses_eventList s.seqCmd s.color s.direction
  obtain ⟨ev, hev, ⟨r, -, rfl⟩ | ⟨-, rfl⟩⟩ := seqStep_next h
  · exact emit_clockOk (s := takeAnswer s) r hb hclosed hev hs
  · exact hs

/-- Outside BUSY the clock line is not known to be high (R266). -/
theorem ClockOk.clkOut_ne_high {s : State} (hs : ClockOk s) (hb : s.life ≠ .busy) : s.clkOut ≠ .high :=
  fun hhigh => hb (hs hhigh).1

/-- Every move keeps the clock line high only inside a pulse, next to the invariant of the sequencer: outside BUSY the line
is not high, and no command drives it (R266). -/
theorem keptByMoves_clockOk : KeptByMoves fun s => SequencerOk s ∧ ClockOk s where
  port _ _ h := h
  fault _ h := h
  seq := fun hb ⟨hseqOk, hclockOk⟩ h =>
    ⟨keptByMoves_sequencerOk.seq hb hseqOk h, seqStep_clockOk hb hseqOk hclockOk h⟩
  answer := fun g _ hb ⟨hseqOk, hclockOk⟩ hu hr =>
    ⟨keptByMoves_sequencerOk.answer g hb hseqOk hu hr,
      fun hhigh => absurd (hu.clkOut.symm.trans hhigh) (hclockOk.clkOut_ne_high hb)⟩
  start := fun c hb ⟨hseqOk, hclockOk⟩ hu =>
    ⟨keptByMoves_sequencerOk.start c hb hseqOk hu,
      fun hhigh => absurd (hu.clkOut.symm.trans hhigh) (hclockOk.clkOut_ne_high hb)⟩

/-! ### How many events of each kind a list has -/

/-- Bits sent one after another give each level of the clock line once a bit (R141). -/
theorem count_setClock_writeBits (v : Bool) (bs : List Bool) :
    (bs.flatMap writeBit).count (.setClock v) = bs.length := by
  have hbit : ∀ b : Bool, (writeBit b).count (.setClock v) = 1 := by revert v; decide
  rw [List.count_flatMap]
  simp [Function.comp_def, hbit]

/-- Bits sent one after another give one data event a bit (R141). -/
theorem count_setData_writeBits (bs : List Bool) :
    (bs.flatMap writeBit).count (.setData false) + (bs.flatMap writeBit).count (.setData true) = bs.length := by
  induction bs with
  | nil => rfl
  | cons b bs ih =>
    have hbit : (writeBit b).count (.setData false) + (writeBit b).count (.setData true) = 1 := by revert b; decide
    rw [List.flatMap_cons, List.count_append, List.count_append, List.length_cons]
    omega

/-- A show sends 288 bits before its latch: of its 937 events the latch has 73, and each bit three (R141, R146). -/
theorem showBits_length (color : Vector Word Config.pN) (d : Direction) :
    ((showBytes color d).flatMap bitsMsbFirst).length = 288 := by
  have hevents : ∀ bs : List Bool, (bs.flatMap writeBit).length = bs.length * 3 := by
    simp [List.length_flatMap, writeBit_length]
  have htotal := showTrace_length color d
  rw [showTrace_eq_writeBits, List.length_append, hevents, latch_length] at htotal
  omega

/-- The latch has 36 pulses and one data event (R145). -/
theorem count_latch :
    (∀ v : Bool, latch.count (.setClock v) = 36) ∧
      latch.count (.setData false) + latch.count (.setData true) = 1 := by decide

/-- A show drives the clock line to each level 324 times (R265). -/
theorem count_setClock_showTrace (v : Bool) (color : Vector Word Config.pN) (d : Direction) :
    (showTrace color d).count (.setClock v) = 324 := by
  rw [showTrace_eq_writeBits, List.count_append, count_setClock_writeBits, showBits_length, count_latch.1]

/-- A show has 289 data events (R265). -/
theorem count_setData_showTrace (color : Vector Word Config.pN) (d : Direction) :
    (showTrace color d).count (.setData false) + (showTrace color d).count (.setData true) = 289 := by
  have hbits := count_setData_writeBits ((showBytes color d).flatMap bitsMsbFirst)
  have hlatch := count_latch.2
  rw [showBits_length] at hbits
  rw [showTrace_eq_writeBits, List.count_append, List.count_append]
  omega

/-! ### How LIFE is left outside BUSY -/

/-- READY is the state whose gate turns INIT away, and it alone admits the other columns (R214). -/
theorem eq_init_iff_of_gate {l : Life} {c : Column} (h : gate l c = none) : c = .init ↔ l ≠ .ready := by
  revert h
  cases l <;> cases c <;> decide

/-- INIT has a column of its own (R214). -/
theorem columnOf_eq_init_iff (i : Instr) : columnOf i = .init ↔ i = .init := by
  cases i <;> simp [columnOf]

/-- A command's own effect keeps LIFE, or it starts a list, which is INIT's for INIT alone (R31). -/
theorem bodyOf_life (i : Instr) (s : State) :
    (bodyOf i s).life = s.life ∨ ∃ c u, bodyOf i s = startList c u ∧ (c = .init ↔ i = .init) := by
  cases i with
  | write elems => exact .inr ⟨.write, _, rfl, by simp⟩
  | showCmd => exact .inr ⟨.showCmd, _, rfl, by simp⟩
  | release => exact .inr ⟨.release, _, rfl, by simp⟩
  | init => exact .inr ⟨.init, _, rfl, by simp⟩
  | setBrightness _ | setColor _ _ | setColorB _ _ _ => exact .inl (by simp only [bodyOf]; split <;> rfl)
  | getBrightness | setDirection _ | getDirection => exact .inl rfl

/-- A command that changes LIFE starts a list, which is INIT's where the gate admits INIT and another command's in READY
(R214, R251). -/
theorem execCommand_life {c : Command} {s t : State} (h : execCommand c s = .next t) (hlife : t.life ≠ s.life) :
    t.life = .busy ∧ t.seqPos = 0 ∧ (t.seqCmd = .init ↔ s.life ≠ .ready) := by
  obtain ⟨-, ⟨i, -, hgate, rfl⟩ | ⟨-, -, rfl⟩ | ⟨r, rfl⟩⟩ := execCommand_next h
  · obtain hkept | ⟨c, u, hbody, hinit⟩ := bodyOf_life i s
    · exact absurd hkept hlife
    · rw [hbody]
      exact ⟨rfl, rfl, hinit.trans ((columnOf_eq_init_iff i).symm.trans (eq_init_iff_of_gate hgate))⟩
  · exact absurd rfl hlife
  · exact absurd rfl hlife

/-- A step outside BUSY that changes LIFE runs a command that starts a list (R251). -/
theorem step_life_of_not_busy {s t : State} (hb : s.life ≠ .busy) (h : step s = .next t) (hlife : t.life ≠ s.life) :
    t.life = .busy ∧ t.seqPos = 0 ∧ (t.seqCmd = .init ↔ s.life ≠ .ready) := by
  obtain ⟨-, ⟨-, rfl⟩ | ⟨hbusy, -⟩ | ⟨-, c, rest, -, hexec⟩ | ⟨hbusy, -⟩⟩ := step_cases h
  · exact absurd rfl hlife
  · exact absurd hbusy hb
  · exact execCommand_life (s := { s with port := rest }) hexec hlife
  · exact absurd hbusy hb

/-! ### The idle block -/

/-- Outside BUSY, with no whole command on the port, a step changes nothing (R251; log entry 4). -/
theorem step_idle {s : State} (hf : s.fault = none) (hb : s.life ≠ .busy) (hp : presented s = none) :
    step s = .next s := by
  simp [step, nextMove, hf, hb, hp]

end Sys2Proof.Machine

namespace Sys2Proof.Proofs

open Sys2Proof.Machine

/-- Settles O60: the line goes high at a rising clock answered `Ok`, the falling clock follows it in the list, and the step
that emits that one leaves the line low or unknown. -/
theorem stepKeepsClockInPulses : Obligations.StepKeepsClockInPulses := fun _ _ hseq hs h =>
  (keptByMoves_clockOk.step_keeps ⟨hseq, hs⟩ h).2

/-- Settles O33: 288 bits of one data event and one pulse each, and the latch with 36 pulses and one data event. -/
theorem eventCounts : Obligations.EventCounts := fun color d =>
  ⟨count_setClock_showTrace true color d, count_setClock_showTrace false color d, count_setData_showTrace color d,
    eventList_length .showCmd color d, eventList_length .write color d, eventList_length .init color d,
    eventList_length .release color d⟩

/-- Settles O47: outside BUSY only the start of a list changes LIFE, and the gate admits INIT everywhere but in READY. -/
theorem lifeLeavesOnlyByItsCommands : Obligations.LifeLeavesOnlyByItsCommands := by
  intro s t hb h hlife
  obtain ⟨hbusy, hpos, hinit⟩ := step_life_of_not_busy hb h hlife
  obtain ⟨hhist, -⟩ := step_of_not_busy_frame hb h
  refine ⟨hbusy, hpos, hhist, fun hl => hinit.mpr ?_, fun hl hcmd => hinit.mp hcmd hl⟩
  obtain hl | hl := hl <;> simp [hl]

/-- Settles O55: the first SHOW leaves the clock line low, whatever it was before (O48), so the second one starts with it
low and lights the strip with the frames (O48 again). -/
theorem twoShowsRepairDisplay : Obligations.TwoShowsRepairDisplay := by
  intro s rest more hs hw hport hans
  have hsplit : s.answers = List.replicate 937 .ok ++ (List.replicate 937 .ok ++ more) := by
    rw [hans, ← List.append_assoc, List.replicate_append_replicate]
  obtain ⟨u, hrun, hu, -, -, hcolor, -, hdir, -, hclk, -, hport', hans', hw', -⟩ :=
    showRunsToCompletion s _ _ hs hw hport hsplit
  obtain ⟨t, hrun', ht, -, -, hcolor', -, -, hdata, hclk', -, -, -, -, hdisp⟩ :=
    showRunsToCompletion u rest more hu hw' hport' hans'
  refine ⟨t, (run_add (j := 938) (k := 938) hrun).trans hrun', ht, hdata, hclk', hcolor'.trans hcolor, fun p => ?_⟩
  simp only [hdisp hclk p, hcolor, hdir]

/-- Settles O1: the power-on values, and the same unknown entry for every LED. -/
theorem powerOnState : Obligations.PowerOnState :=
  ⟨rfl, rfl, rfl, rfl, fun p => Vector.getElem_replicate p.isLt⟩

/-- Settles O3: an incomplete command is no presentation, and with none the block outside BUSY is idle. -/
theorem idleBlockChangesNothing : Obligations.IdleBlockChangesNothing := fun _ hf hb hd =>
  step_idle hf hb (presented_of_incomplete hd)

end Sys2Proof.Proofs
end
